-- ==== Sys2Proof/Word.lean ====
section
/-! DEFINITION. The two word types of the block (00 R7, R10): 8-bit data and 16-bit addresses. -/

namespace Sys2Proof

/-- A byte: every register but PC, every memory cell and the data bus (R7). -/
abbrev Byte := BitVec 8

/-- A word: PC and the address bus (R7). -/
abbrev Word := BitVec 16

end Sys2Proof
end

