-- ==== Sys2Proof/Machine/Bits.lean ====
section
/-! DEFINITION. The bit-field, extension and byte-order helpers of 00 R10 and 20 R63. -/

namespace Sys2Proof.Machine

/-- The 16-bit quantity whose byte at the lower address is `lo` (R63: little-endian). -/
def joinBytes (lo hi : Byte) : Word := hi ++ lo

/-- Bits 7 to 0 of a word. -/
def loByte (w : Word) : Byte := w.setWidth 8

/-- Bits 15 to 8 of a word. -/
def hiByte (w : Word) : Byte := (w >>> 8).setWidth 8

/-- `zext_16` (R10). -/
def zext16 (b : Byte) : Word := b.setWidth 16

/-- `sext_16` (R10): bit 7 copied into bits 15 to 8. -/
def sext16 (b : Byte) : Word := b.signExtend 16

end Sys2Proof.Machine
end

