-- ==== Sys2Proof/Syntax.lean ====
section
/-! DEFINITION. The instructions: one constructor per row of spec/opcode_table.json (30 R143, R144),
named by its mnemonic and the mode code of R141. The operand fields are those of R142: every value of every field is valid. The 44 undefined
opcodes (R146) keep the operand bytes they fetch and ignore. The rows with operand bytes stand first, by rule number; then the rows that are the opcode
byte alone. -/

namespace Sys2Proof

/-- The 256 rows of the opcode map (R144). -/
inductive Instr where
  /-- A1 LDA izx (R200). -/
  | ldaIzx (zp8 : Byte)
  /-- A5 LDA zp (R200). -/
  | ldaZp (zp8 : Byte)
  /-- A9 LDA imm (R200). -/
  | ldaImm (imm8 : Byte)
  /-- AD LDA abs (R200). -/
  | ldaAbs (addr16 : Word)
  /-- B1 LDA izy (R200). -/
  | ldaIzy (zp8 : Byte)
  /-- B2 LDA zpi (R200). -/
  | ldaZpi (zp8 : Byte)
  /-- B5 LDA zpx (R200). -/
  | ldaZpx (zp8 : Byte)
  /-- B9 LDA aby (R200). -/
  | ldaAby (addr16 : Word)
  /-- BD LDA abx (R200). -/
  | ldaAbx (addr16 : Word)
  /-- A2 LDX imm (R201). -/
  | ldxImm (imm8 : Byte)
  /-- A6 LDX zp (R201). -/
  | ldxZp (zp8 : Byte)
  /-- AE LDX abs (R201). -/
  | ldxAbs (addr16 : Word)
  /-- B6 LDX zpy (R201). -/
  | ldxZpy (zp8 : Byte)
  /-- BE LDX aby (R201). -/
  | ldxAby (addr16 : Word)
  /-- A0 LDY imm (R202). -/
  | ldyImm (imm8 : Byte)
  /-- A4 LDY zp (R202). -/
  | ldyZp (zp8 : Byte)
  /-- AC LDY abs (R202). -/
  | ldyAbs (addr16 : Word)
  /-- B4 LDY zpx (R202). -/
  | ldyZpx (zp8 : Byte)
  /-- BC LDY abx (R202). -/
  | ldyAbx (addr16 : Word)
  /-- 81 STA izx (R203). -/
  | staIzx (zp8 : Byte)
  /-- 85 STA zp (R203). -/
  | staZp (zp8 : Byte)
  /-- 8D STA abs (R203). -/
  | staAbs (addr16 : Word)
  /-- 91 STA izy (R203). -/
  | staIzy (zp8 : Byte)
  /-- 92 STA zpi (R203). -/
  | staZpi (zp8 : Byte)
  /-- 95 STA zpx (R203). -/
  | staZpx (zp8 : Byte)
  /-- 99 STA aby (R203). -/
  | staAby (addr16 : Word)
  /-- 9D STA abx (R203). -/
  | staAbx (addr16 : Word)
  /-- 86 STX zp (R204). -/
  | stxZp (zp8 : Byte)
  /-- 8E STX abs (R204). -/
  | stxAbs (addr16 : Word)
  /-- 96 STX zpy (R204). -/
  | stxZpy (zp8 : Byte)
  /-- 84 STY zp (R205). -/
  | styZp (zp8 : Byte)
  /-- 8C STY abs (R205). -/
  | styAbs (addr16 : Word)
  /-- 94 STY zpx (R205). -/
  | styZpx (zp8 : Byte)
  /-- 64 STZ zp (R206). -/
  | stzZp (zp8 : Byte)
  /-- 74 STZ zpx (R206). -/
  | stzZpx (zp8 : Byte)
  /-- 9C STZ abs (R206). -/
  | stzAbs (addr16 : Word)
  /-- 9E STZ abx (R206). -/
  | stzAbx (addr16 : Word)
  /-- 61 ADC izx (R251). -/
  | adcIzx (zp8 : Byte)
  /-- 65 ADC zp (R251). -/
  | adcZp (zp8 : Byte)
  /-- 69 ADC imm (R251). -/
  | adcImm (imm8 : Byte)
  /-- 6D ADC abs (R251). -/
  | adcAbs (addr16 : Word)
  /-- 71 ADC izy (R251). -/
  | adcIzy (zp8 : Byte)
  /-- 72 ADC zpi (R251). -/
  | adcZpi (zp8 : Byte)
  /-- 75 ADC zpx (R251). -/
  | adcZpx (zp8 : Byte)
  /-- 79 ADC aby (R251). -/
  | adcAby (addr16 : Word)
  /-- 7D ADC abx (R251). -/
  | adcAbx (addr16 : Word)
  /-- E1 SBC izx (R253). -/
  | sbcIzx (zp8 : Byte)
  /-- E5 SBC zp (R253). -/
  | sbcZp (zp8 : Byte)
  /-- E9 SBC imm (R253). -/
  | sbcImm (imm8 : Byte)
  /-- ED SBC abs (R253). -/
  | sbcAbs (addr16 : Word)
  /-- F1 SBC izy (R253). -/
  | sbcIzy (zp8 : Byte)
  /-- F2 SBC zpi (R253). -/
  | sbcZpi (zp8 : Byte)
  /-- F5 SBC zpx (R253). -/
  | sbcZpx (zp8 : Byte)
  /-- F9 SBC aby (R253). -/
  | sbcAby (addr16 : Word)
  /-- FD SBC abx (R253). -/
  | sbcAbx (addr16 : Word)
  /-- C1 CMP izx (R258). -/
  | cmpIzx (zp8 : Byte)
  /-- C5 CMP zp (R258). -/
  | cmpZp (zp8 : Byte)
  /-- C9 CMP imm (R258). -/
  | cmpImm (imm8 : Byte)
  /-- CD CMP abs (R258). -/
  | cmpAbs (addr16 : Word)
  /-- D1 CMP izy (R258). -/
  | cmpIzy (zp8 : Byte)
  /-- D2 CMP zpi (R258). -/
  | cmpZpi (zp8 : Byte)
  /-- D5 CMP zpx (R258). -/
  | cmpZpx (zp8 : Byte)
  /-- D9 CMP aby (R258). -/
  | cmpAby (addr16 : Word)
  /-- DD CMP abx (R258). -/
  | cmpAbx (addr16 : Word)
  /-- E0 CPX imm (R259). -/
  | cpxImm (imm8 : Byte)
  /-- E4 CPX zp (R259). -/
  | cpxZp (zp8 : Byte)
  /-- EC CPX abs (R259). -/
  | cpxAbs (addr16 : Word)
  /-- C0 CPY imm (R260). -/
  | cpyImm (imm8 : Byte)
  /-- C4 CPY zp (R260). -/
  | cpyZp (zp8 : Byte)
  /-- CC CPY abs (R260). -/
  | cpyAbs (addr16 : Word)
  /-- E6 INC zp (R261). -/
  | incZp (zp8 : Byte)
  /-- EE INC abs (R261). -/
  | incAbs (addr16 : Word)
  /-- F6 INC zpx (R261). -/
  | incZpx (zp8 : Byte)
  /-- FE INC abx (R261). -/
  | incAbx (addr16 : Word)
  /-- C6 DEC zp (R262). -/
  | decZp (zp8 : Byte)
  /-- CE DEC abs (R262). -/
  | decAbs (addr16 : Word)
  /-- D6 DEC zpx (R262). -/
  | decZpx (zp8 : Byte)
  /-- DE DEC abx (R262). -/
  | decAbx (addr16 : Word)
  /-- 21 AND izx (R280). -/
  | andIzx (zp8 : Byte)
  /-- 25 AND zp (R280). -/
  | andZp (zp8 : Byte)
  /-- 29 AND imm (R280). -/
  | andImm (imm8 : Byte)
  /-- 2D AND abs (R280). -/
  | andAbs (addr16 : Word)
  /-- 31 AND izy (R280). -/
  | andIzy (zp8 : Byte)
  /-- 32 AND zpi (R280). -/
  | andZpi (zp8 : Byte)
  /-- 35 AND zpx (R280). -/
  | andZpx (zp8 : Byte)
  /-- 39 AND aby (R280). -/
  | andAby (addr16 : Word)
  /-- 3D AND abx (R280). -/
  | andAbx (addr16 : Word)
  /-- 01 ORA izx (R281). -/
  | oraIzx (zp8 : Byte)
  /-- 05 ORA zp (R281). -/
  | oraZp (zp8 : Byte)
  /-- 09 ORA imm (R281). -/
  | oraImm (imm8 : Byte)
  /-- 0D ORA abs (R281). -/
  | oraAbs (addr16 : Word)
  /-- 11 ORA izy (R281). -/
  | oraIzy (zp8 : Byte)
  /-- 12 ORA zpi (R281). -/
  | oraZpi (zp8 : Byte)
  /-- 15 ORA zpx (R281). -/
  | oraZpx (zp8 : Byte)
  /-- 19 ORA aby (R281). -/
  | oraAby (addr16 : Word)
  /-- 1D ORA abx (R281). -/
  | oraAbx (addr16 : Word)
  /-- 41 EOR izx (R282). -/
  | eorIzx (zp8 : Byte)
  /-- 45 EOR zp (R282). -/
  | eorZp (zp8 : Byte)
  /-- 49 EOR imm (R282). -/
  | eorImm (imm8 : Byte)
  /-- 4D EOR abs (R282). -/
  | eorAbs (addr16 : Word)
  /-- 51 EOR izy (R282). -/
  | eorIzy (zp8 : Byte)
  /-- 52 EOR zpi (R282). -/
  | eorZpi (zp8 : Byte)
  /-- 55 EOR zpx (R282). -/
  | eorZpx (zp8 : Byte)
  /-- 59 EOR aby (R282). -/
  | eorAby (addr16 : Word)
  /-- 5D EOR abx (R282). -/
  | eorAbx (addr16 : Word)
  /-- 24 BIT zp (R283). -/
  | bitZp (zp8 : Byte)
  /-- 2C BIT abs (R283). -/
  | bitAbs (addr16 : Word)
  /-- 34 BIT zpx (R283). -/
  | bitZpx (zp8 : Byte)
  /-- 3C BIT abx (R283). -/
  | bitAbx (addr16 : Word)
  /-- 89 BIT imm (R283). -/
  | bitImm (imm8 : Byte)
  /-- 04 TSB zp (R284). -/
  | tsbZp (zp8 : Byte)
  /-- 0C TSB abs (R284). -/
  | tsbAbs (addr16 : Word)
  /-- 14 TRB zp (R285). -/
  | trbZp (zp8 : Byte)
  /-- 1C TRB abs (R285). -/
  | trbAbs (addr16 : Word)
  /-- 06 ASL zp (R286). -/
  | aslZp (zp8 : Byte)
  /-- 0E ASL abs (R286). -/
  | aslAbs (addr16 : Word)
  /-- 16 ASL zpx (R286). -/
  | aslZpx (zp8 : Byte)
  /-- 1E ASL abx (R286). -/
  | aslAbx (addr16 : Word)
  /-- 46 LSR zp (R287). -/
  | lsrZp (zp8 : Byte)
  /-- 4E LSR abs (R287). -/
  | lsrAbs (addr16 : Word)
  /-- 56 LSR zpx (R287). -/
  | lsrZpx (zp8 : Byte)
  /-- 5E LSR abx (R287). -/
  | lsrAbx (addr16 : Word)
  /-- 26 ROL zp (R288). -/
  | rolZp (zp8 : Byte)
  /-- 2E ROL abs (R288). -/
  | rolAbs (addr16 : Word)
  /-- 36 ROL zpx (R288). -/
  | rolZpx (zp8 : Byte)
  /-- 3E ROL abx (R288). -/
  | rolAbx (addr16 : Word)
  /-- 66 ROR zp (R289). -/
  | rorZp (zp8 : Byte)
  /-- 6E ROR abs (R289). -/
  | rorAbs (addr16 : Word)
  /-- 76 ROR zpx (R289). -/
  | rorZpx (zp8 : Byte)
  /-- 7E ROR abx (R289). -/
  | rorAbx (addr16 : Word)
  /-- 07 RMB0 zp (R291). -/
  | rmb0 (zp8 : Byte)
  /-- 17 RMB1 zp (R292). -/
  | rmb1 (zp8 : Byte)
  /-- 27 RMB2 zp (R293). -/
  | rmb2 (zp8 : Byte)
  /-- 37 RMB3 zp (R294). -/
  | rmb3 (zp8 : Byte)
  /-- 47 RMB4 zp (R295). -/
  | rmb4 (zp8 : Byte)
  /-- 57 RMB5 zp (R296). -/
  | rmb5 (zp8 : Byte)
  /-- 67 RMB6 zp (R297). -/
  | rmb6 (zp8 : Byte)
  /-- 77 RMB7 zp (R298). -/
  | rmb7 (zp8 : Byte)
  /-- 87 SMB0 zp (R299). -/
  | smb0 (zp8 : Byte)
  /-- 97 SMB1 zp (R300). -/
  | smb1 (zp8 : Byte)
  /-- A7 SMB2 zp (R301). -/
  | smb2 (zp8 : Byte)
  /-- B7 SMB3 zp (R302). -/
  | smb3 (zp8 : Byte)
  /-- C7 SMB4 zp (R303). -/
  | smb4 (zp8 : Byte)
  /-- D7 SMB5 zp (R304). -/
  | smb5 (zp8 : Byte)
  /-- E7 SMB6 zp (R305). -/
  | smb6 (zp8 : Byte)
  /-- F7 SMB7 zp (R306). -/
  | smb7 (zp8 : Byte)
  /-- 4C JMP abs (R340). -/
  | jmpAbs (addr16 : Word)
  /-- 6C JMP ind (R341). -/
  | jmpInd (addr16 : Word)
  /-- 7C JMP iax (R342). -/
  | jmpIax (addr16 : Word)
  /-- 20 JSR abs (R343). -/
  | jsr (addr16 : Word)
  /-- 10 BPL rel (R346). -/
  | bpl (rel8 : Byte)
  /-- 30 BMI rel (R347). -/
  | bmi (rel8 : Byte)
  /-- 50 BVC rel (R348). -/
  | bvc (rel8 : Byte)
  /-- 70 BVS rel (R349). -/
  | bvs (rel8 : Byte)
  /-- 90 BCC rel (R350). -/
  | bcc (rel8 : Byte)
  /-- B0 BCS rel (R351). -/
  | bcs (rel8 : Byte)
  /-- D0 BNE rel (R352). -/
  | bne (rel8 : Byte)
  /-- F0 BEQ rel (R353). -/
  | beq (rel8 : Byte)
  /-- 80 BRA rel (R354). -/
  | bra (rel8 : Byte)
  /-- 0F BBR0 zpr (R355). -/
  | bbr0 (zp8 : Byte) (rel8 : Byte)
  /-- 1F BBR1 zpr (R356). -/
  | bbr1 (zp8 : Byte) (rel8 : Byte)
  /-- 2F BBR2 zpr (R357). -/
  | bbr2 (zp8 : Byte) (rel8 : Byte)
  /-- 3F BBR3 zpr (R358). -/
  | bbr3 (zp8 : Byte) (rel8 : Byte)
  /-- 4F BBR4 zpr (R359). -/
  | bbr4 (zp8 : Byte) (rel8 : Byte)
  /-- 5F BBR5 zpr (R360). -/
  | bbr5 (zp8 : Byte) (rel8 : Byte)
  /-- 6F BBR6 zpr (R361). -/
  | bbr6 (zp8 : Byte) (rel8 : Byte)
  /-- 7F BBR7 zpr (R362). -/
  | bbr7 (zp8 : Byte) (rel8 : Byte)
  /-- 8F BBS0 zpr (R363). -/
  | bbs0 (zp8 : Byte) (rel8 : Byte)
  /-- 9F BBS1 zpr (R364). -/
  | bbs1 (zp8 : Byte) (rel8 : Byte)
  /-- AF BBS2 zpr (R365). -/
  | bbs2 (zp8 : Byte) (rel8 : Byte)
  /-- BF BBS3 zpr (R366). -/
  | bbs3 (zp8 : Byte) (rel8 : Byte)
  /-- CF BBS4 zpr (R367). -/
  | bbs4 (zp8 : Byte) (rel8 : Byte)
  /-- DF BBS5 zpr (R368). -/
  | bbs5 (zp8 : Byte) (rel8 : Byte)
  /-- EF BBS6 zpr (R369). -/
  | bbs6 (zp8 : Byte) (rel8 : Byte)
  /-- FF BBS7 zpr (R370). -/
  | bbs7 (zp8 : Byte) (rel8 : Byte)
  /-- 02 NOP u2 (R408). -/
  | nop02 (ignored8 : Byte)
  /-- 22 NOP u2 (R408). -/
  | nop22 (ignored8 : Byte)
  /-- 42 NOP u2 (R408). -/
  | nop42 (ignored8 : Byte)
  /-- 62 NOP u2 (R408). -/
  | nop62 (ignored8 : Byte)
  /-- 82 NOP u2 (R408). -/
  | nop82 (ignored8 : Byte)
  /-- C2 NOP u2 (R408). -/
  | nopC2 (ignored8 : Byte)
  /-- E2 NOP u2 (R408). -/
  | nopE2 (ignored8 : Byte)
  /-- 44 NOP u2 (R409). -/
  | nop44 (ignored8 : Byte)
  /-- 54 NOP u2 (R410). -/
  | nop54 (ignored8 : Byte)
  /-- D4 NOP u2 (R410). -/
  | nopD4 (ignored8 : Byte)
  /-- F4 NOP u2 (R410). -/
  | nopF4 (ignored8 : Byte)
  /-- 5C NOP u3 (R411). -/
  | nop5C (ignored16 : Word)
  /-- DC NOP u3 (R412). -/
  | nopDC (ignored16 : Word)
  /-- FC NOP u3 (R412). -/
  | nopFC (ignored16 : Word)
  /-- AA TAX imp (R207). -/
  | tax
  /-- A8 TAY imp (R208). -/
  | tay
  /-- 8A TXA imp (R209). -/
  | txa
  /-- 98 TYA imp (R210). -/
  | tya
  /-- BA TSX imp (R211). -/
  | tsx
  /-- 9A TXS imp (R212). -/
  | txs
  /-- 08 PHP imp (R232). -/
  | php
  /-- 48 PHA imp (R233). -/
  | pha
  /-- DA PHX imp (R234). -/
  | phx
  /-- 5A PHY imp (R235). -/
  | phy
  /-- 68 PLA imp (R236). -/
  | pla
  /-- 28 PLP imp (R237). -/
  | plp
  /-- FA PLX imp (R238). -/
  | plx
  /-- 7A PLY imp (R239). -/
  | ply
  /-- 1A INC acc (R261). -/
  | incAcc
  /-- 3A DEC acc (R262). -/
  | decAcc
  /-- E8 INX imp (R263). -/
  | inx
  /-- C8 INY imp (R264). -/
  | iny
  /-- CA DEX imp (R265). -/
  | dex
  /-- 88 DEY imp (R266). -/
  | dey
  /-- 0A ASL acc (R286). -/
  | aslAcc
  /-- 4A LSR acc (R287). -/
  | lsrAcc
  /-- 2A ROL acc (R288). -/
  | rolAcc
  /-- 6A ROR acc (R289). -/
  | rorAcc
  /-- 60 RTS imp (R344). -/
  | rts
  /-- 40 RTI imp (R345). -/
  | rti
  /-- 00 BRK imp (R376). -/
  | brk
  /-- 18 CLC imp (R400). -/
  | clc
  /-- 38 SEC imp (R401). -/
  | sec
  /-- 58 CLI imp (R402). -/
  | cli
  /-- 78 SEI imp (R403). -/
  | sei
  /-- D8 CLD imp (R404). -/
  | cld
  /-- F8 SED imp (R405). -/
  | sed
  /-- B8 CLV imp (R406). -/
  | clv
  /-- 03 NOP u1 (R407). -/
  | nop03
  /-- 0B NOP u1 (R407). -/
  | nop0B
  /-- 13 NOP u1 (R407). -/
  | nop13
  /-- 1B NOP u1 (R407). -/
  | nop1B
  /-- 23 NOP u1 (R407). -/
  | nop23
  /-- 2B NOP u1 (R407). -/
  | nop2B
  /-- 33 NOP u1 (R407). -/
  | nop33
  /-- 3B NOP u1 (R407). -/
  | nop3B
  /-- 43 NOP u1 (R407). -/
  | nop43
  /-- 4B NOP u1 (R407). -/
  | nop4B
  /-- 53 NOP u1 (R407). -/
  | nop53
  /-- 5B NOP u1 (R407). -/
  | nop5B
  /-- 63 NOP u1 (R407). -/
  | nop63
  /-- 6B NOP u1 (R407). -/
  | nop6B
  /-- 73 NOP u1 (R407). -/
  | nop73
  /-- 7B NOP u1 (R407). -/
  | nop7B
  /-- 83 NOP u1 (R407). -/
  | nop83
  /-- 8B NOP u1 (R407). -/
  | nop8B
  /-- 93 NOP u1 (R407). -/
  | nop93
  /-- 9B NOP u1 (R407). -/
  | nop9B
  /-- A3 NOP u1 (R407). -/
  | nopA3
  /-- AB NOP u1 (R407). -/
  | nopAB
  /-- B3 NOP u1 (R407). -/
  | nopB3
  /-- BB NOP u1 (R407). -/
  | nopBB
  /-- C3 NOP u1 (R407). -/
  | nopC3
  /-- D3 NOP u1 (R407). -/
  | nopD3
  /-- E3 NOP u1 (R407). -/
  | nopE3
  /-- EB NOP u1 (R407). -/
  | nopEB
  /-- F3 NOP u1 (R407). -/
  | nopF3
  /-- FB NOP u1 (R407). -/
  | nopFB
  /-- EA NOP imp (R413). -/
  | nop
  /-- CB WAI imp (R414). -/
  | wai
  /-- DB STP imp (R415). -/
  | stp
  deriving DecidableEq, Repr

end Sys2Proof
end

