-- ==== Sys2Proof/WellFormed.lean ====
section
/-! DEFINITION. Well-formed instructions. The encoding has no reserved bits and no reserved values: "every byte value of every field is
valid" (30 R142), every opcode byte is a row (R143), and there is no reserved encoding (R147). The operand types of `Instr` (Byte, Word) hold
exactly the field values, so there is no check to make and no ill-formed term. -/

namespace Sys2Proof

/-- Every term of `Instr` is an instruction of the hardware (R142, R147). -/
def Instr.wellFormed (_ : Instr) : Bool := true

end Sys2Proof
end

