-- ==== Sys2Proof/Decode.lean ====
section
/-! DEFINITION. Decoding bytes into an instruction by the opcode map of 30 R144, and the encoder beside it. The opcode byte alone decides the
row (R140, R143); an operand word is low byte first (R142). -/

namespace Sys2Proof

open Sys2Proof.Machine (joinBytes loByte hiByte)

/-- One cell of the opcode map: the row and the operand bytes it takes (R141, R148). -/
inductive RowEntry where
  /-- No operand byte. -/
  | one (i : Instr)
  /-- One operand byte. -/
  | two (f : Byte → Instr)
  /-- A 16-bit operand, low byte first. -/
  | wide (f : Word → Instr)
  /-- Two separate operand bytes (zero-page relative). -/
  | pair (f : Byte → Byte → Instr)

/-- Why bytes are no instruction: only when some are missing, since every opcode byte is a row (R147). -/
inductive DecodeError where
  /-- There is no opcode byte. -/
  | noBytes
  /-- The operand bytes of this opcode are not all there. -/
  | truncated (opcode : Byte)
  deriving DecidableEq, Repr

/-- The length in bytes, by the opcode byte alone (R148). -/
def RowEntry.length : RowEntry → Nat
  | .one _ => 1
  | .two _ => 2
  | .wide _ => 3
  | .pair _ => 3

/-- Row 0_ of the opcode map (R144). -/
def opcodeRow0 : List RowEntry := [
  .one .brk, .two .oraIzx, .two .nop02, .one .nop03,
  .two .tsbZp, .two .oraZp, .two .aslZp, .two .rmb0,
  .one .php, .two .oraImm, .one .aslAcc, .one .nop0B,
  .wide .tsbAbs, .wide .oraAbs, .wide .aslAbs, .pair .bbr0]

/-- Row 1_ of the opcode map (R144). -/
def opcodeRow1 : List RowEntry := [
  .two .bpl, .two .oraIzy, .two .oraZpi, .one .nop13,
  .two .trbZp, .two .oraZpx, .two .aslZpx, .two .rmb1,
  .one .clc, .wide .oraAby, .one .incAcc, .one .nop1B,
  .wide .trbAbs, .wide .oraAbx, .wide .aslAbx, .pair .bbr1]

/-- Row 2_ of the opcode map (R144). -/
def opcodeRow2 : List RowEntry := [
  .wide .jsr, .two .andIzx, .two .nop22, .one .nop23,
  .two .bitZp, .two .andZp, .two .rolZp, .two .rmb2,
  .one .plp, .two .andImm, .one .rolAcc, .one .nop2B,
  .wide .bitAbs, .wide .andAbs, .wide .rolAbs, .pair .bbr2]

/-- Row 3_ of the opcode map (R144). -/
def opcodeRow3 : List RowEntry := [
  .two .bmi, .two .andIzy, .two .andZpi, .one .nop33,
  .two .bitZpx, .two .andZpx, .two .rolZpx, .two .rmb3,
  .one .sec, .wide .andAby, .one .decAcc, .one .nop3B,
  .wide .bitAbx, .wide .andAbx, .wide .rolAbx, .pair .bbr3]

/-- Row 4_ of the opcode map (R144). -/
def opcodeRow4 : List RowEntry := [
  .one .rti, .two .eorIzx, .two .nop42, .one .nop43,
  .two .nop44, .two .eorZp, .two .lsrZp, .two .rmb4,
  .one .pha, .two .eorImm, .one .lsrAcc, .one .nop4B,
  .wide .jmpAbs, .wide .eorAbs, .wide .lsrAbs, .pair .bbr4]

/-- Row 5_ of the opcode map (R144). -/
def opcodeRow5 : List RowEntry := [
  .two .bvc, .two .eorIzy, .two .eorZpi, .one .nop53,
  .two .nop54, .two .eorZpx, .two .lsrZpx, .two .rmb5,
  .one .cli, .wide .eorAby, .one .phy, .one .nop5B,
  .wide .nop5C, .wide .eorAbx, .wide .lsrAbx, .pair .bbr5]

/-- Row 6_ of the opcode map (R144). -/
def opcodeRow6 : List RowEntry := [
  .one .rts, .two .adcIzx, .two .nop62, .one .nop63,
  .two .stzZp, .two .adcZp, .two .rorZp, .two .rmb6,
  .one .pla, .two .adcImm, .one .rorAcc, .one .nop6B,
  .wide .jmpInd, .wide .adcAbs, .wide .rorAbs, .pair .bbr6]

/-- Row 7_ of the opcode map (R144). -/
def opcodeRow7 : List RowEntry := [
  .two .bvs, .two .adcIzy, .two .adcZpi, .one .nop73,
  .two .stzZpx, .two .adcZpx, .two .rorZpx, .two .rmb7,
  .one .sei, .wide .adcAby, .one .ply, .one .nop7B,
  .wide .jmpIax, .wide .adcAbx, .wide .rorAbx, .pair .bbr7]

/-- Row 8_ of the opcode map (R144). -/
def opcodeRow8 : List RowEntry := [
  .two .bra, .two .staIzx, .two .nop82, .one .nop83,
  .two .styZp, .two .staZp, .two .stxZp, .two .smb0,
  .one .dey, .two .bitImm, .one .txa, .one .nop8B,
  .wide .styAbs, .wide .staAbs, .wide .stxAbs, .pair .bbs0]

/-- Row 9_ of the opcode map (R144). -/
def opcodeRow9 : List RowEntry := [
  .two .bcc, .two .staIzy, .two .staZpi, .one .nop93,
  .two .styZpx, .two .staZpx, .two .stxZpy, .two .smb1,
  .one .tya, .wide .staAby, .one .txs, .one .nop9B,
  .wide .stzAbs, .wide .staAbx, .wide .stzAbx, .pair .bbs1]

/-- Row A_ of the opcode map (R144). -/
def opcodeRowA : List RowEntry := [
  .two .ldyImm, .two .ldaIzx, .two .ldxImm, .one .nopA3,
  .two .ldyZp, .two .ldaZp, .two .ldxZp, .two .smb2,
  .one .tay, .two .ldaImm, .one .tax, .one .nopAB,
  .wide .ldyAbs, .wide .ldaAbs, .wide .ldxAbs, .pair .bbs2]

/-- Row B_ of the opcode map (R144). -/
def opcodeRowB : List RowEntry := [
  .two .bcs, .two .ldaIzy, .two .ldaZpi, .one .nopB3,
  .two .ldyZpx, .two .ldaZpx, .two .ldxZpy, .two .smb3,
  .one .clv, .wide .ldaAby, .one .tsx, .one .nopBB,
  .wide .ldyAbx, .wide .ldaAbx, .wide .ldxAby, .pair .bbs3]

/-- Row C_ of the opcode map (R144). -/
def opcodeRowC : List RowEntry := [
  .two .cpyImm, .two .cmpIzx, .two .nopC2, .one .nopC3,
  .two .cpyZp, .two .cmpZp, .two .decZp, .two .smb4,
  .one .iny, .two .cmpImm, .one .dex, .one .wai,
  .wide .cpyAbs, .wide .cmpAbs, .wide .decAbs, .pair .bbs4]

/-- Row D_ of the opcode map (R144). -/
def opcodeRowD : List RowEntry := [
  .two .bne, .two .cmpIzy, .two .cmpZpi, .one .nopD3,
  .two .nopD4, .two .cmpZpx, .two .decZpx, .two .smb5,
  .one .cld, .wide .cmpAby, .one .phx, .one .stp,
  .wide .nopDC, .wide .cmpAbx, .wide .decAbx, .pair .bbs5]

/-- Row E_ of the opcode map (R144). -/
def opcodeRowE : List RowEntry := [
  .two .cpxImm, .two .sbcIzx, .two .nopE2, .one .nopE3,
  .two .cpxZp, .two .sbcZp, .two .incZp, .two .smb6,
  .one .inx, .two .sbcImm, .one .nop, .one .nopEB,
  .wide .cpxAbs, .wide .sbcAbs, .wide .incAbs, .pair .bbs6]

/-- Row F_ of the opcode map (R144). -/
def opcodeRowF : List RowEntry := [
  .two .beq, .two .sbcIzy, .two .sbcZpi, .one .nopF3,
  .two .nopF4, .two .sbcZpx, .two .incZpx, .two .smb7,
  .one .sed, .wide .sbcAby, .one .plx, .one .nopFB,
  .wide .nopFC, .wide .sbcAbx, .wide .incAbx, .pair .bbs7]

/-- The opcode map (R144): row = high hex digit, column = low hex digit. -/
def opcodeMap : List (List RowEntry) :=
  [opcodeRow0, opcodeRow1, opcodeRow2, opcodeRow3, opcodeRow4, opcodeRow5, opcodeRow6, opcodeRow7] ++
  [opcodeRow8, opcodeRow9, opcodeRowA, opcodeRowB, opcodeRowC, opcodeRowD, opcodeRowE, opcodeRowF]

/-- The lookup `TABLE[op]` (R173). The defaults are never used: both digits are below 16. -/
def entryOf (op : Byte) : RowEntry :=
  (opcodeMap.getD (op.toNat / 16) []).getD (op.toNat % 16) (.one .nop)

/-- Decoding: the instruction at the front of the bytes and the bytes after it (R140, R148), or why there is none. -/
def decode : List Byte → Except DecodeError (Instr × List Byte)
  | [] => .error .noBytes
  | op :: rest =>
    match entryOf op, rest with
    | .one i, bs => .ok (i, bs)
    | .two f, b1 :: bs => .ok (f b1, bs)
    | .wide f, b1 :: b2 :: bs => .ok (f (joinBytes b1 b2), bs)
    | .pair f, b1 :: b2 :: bs => .ok (f b1 b2, bs)
    | _, _ => .error (.truncated op)

/-- Encoding: the bytes of an instruction in address order (R141, R149). -/
def encode : Instr → List Byte
  | .ldaIzx zp8 => [0xA1, zp8]
  | .ldaZp zp8 => [0xA5, zp8]
  | .ldaImm imm8 => [0xA9, imm8]
  | .ldaAbs addr16 => [0xAD, loByte addr16, hiByte addr16]
  | .ldaIzy zp8 => [0xB1, zp8]
  | .ldaZpi zp8 => [0xB2, zp8]
  | .ldaZpx zp8 => [0xB5, zp8]
  | .ldaAby addr16 => [0xB9, loByte addr16, hiByte addr16]
  | .ldaAbx addr16 => [0xBD, loByte addr16, hiByte addr16]
  | .ldxImm imm8 => [0xA2, imm8]
  | .ldxZp zp8 => [0xA6, zp8]
  | .ldxAbs addr16 => [0xAE, loByte addr16, hiByte addr16]
  | .ldxZpy zp8 => [0xB6, zp8]
  | .ldxAby addr16 => [0xBE, loByte addr16, hiByte addr16]
  | .ldyImm imm8 => [0xA0, imm8]
  | .ldyZp zp8 => [0xA4, zp8]
  | .ldyAbs addr16 => [0xAC, loByte addr16, hiByte addr16]
  | .ldyZpx zp8 => [0xB4, zp8]
  | .ldyAbx addr16 => [0xBC, loByte addr16, hiByte addr16]
  | .staIzx zp8 => [0x81, zp8]
  | .staZp zp8 => [0x85, zp8]
  | .staAbs addr16 => [0x8D, loByte addr16, hiByte addr16]
  | .staIzy zp8 => [0x91, zp8]
  | .staZpi zp8 => [0x92, zp8]
  | .staZpx zp8 => [0x95, zp8]
  | .staAby addr16 => [0x99, loByte addr16, hiByte addr16]
  | .staAbx addr16 => [0x9D, loByte addr16, hiByte addr16]
  | .stxZp zp8 => [0x86, zp8]
  | .stxAbs addr16 => [0x8E, loByte addr16, hiByte addr16]
  | .stxZpy zp8 => [0x96, zp8]
  | .styZp zp8 => [0x84, zp8]
  | .styAbs addr16 => [0x8C, loByte addr16, hiByte addr16]
  | .styZpx zp8 => [0x94, zp8]
  | .stzZp zp8 => [0x64, zp8]
  | .stzZpx zp8 => [0x74, zp8]
  | .stzAbs addr16 => [0x9C, loByte addr16, hiByte addr16]
  | .stzAbx addr16 => [0x9E, loByte addr16, hiByte addr16]
  | .adcIzx zp8 => [0x61, zp8]
  | .adcZp zp8 => [0x65, zp8]
  | .adcImm imm8 => [0x69, imm8]
  | .adcAbs addr16 => [0x6D, loByte addr16, hiByte addr16]
  | .adcIzy zp8 => [0x71, zp8]
  | .adcZpi zp8 => [0x72, zp8]
  | .adcZpx zp8 => [0x75, zp8]
  | .adcAby addr16 => [0x79, loByte addr16, hiByte addr16]
  | .adcAbx addr16 => [0x7D, loByte addr16, hiByte addr16]
  | .sbcIzx zp8 => [0xE1, zp8]
  | .sbcZp zp8 => [0xE5, zp8]
  | .sbcImm imm8 => [0xE9, imm8]
  | .sbcAbs addr16 => [0xED, loByte addr16, hiByte addr16]
  | .sbcIzy zp8 => [0xF1, zp8]
  | .sbcZpi zp8 => [0xF2, zp8]
  | .sbcZpx zp8 => [0xF5, zp8]
  | .sbcAby addr16 => [0xF9, loByte addr16, hiByte addr16]
  | .sbcAbx addr16 => [0xFD, loByte addr16, hiByte addr16]
  | .cmpIzx zp8 => [0xC1, zp8]
  | .cmpZp zp8 => [0xC5, zp8]
  | .cmpImm imm8 => [0xC9, imm8]
  | .cmpAbs addr16 => [0xCD, loByte addr16, hiByte addr16]
  | .cmpIzy zp8 => [0xD1, zp8]
  | .cmpZpi zp8 => [0xD2, zp8]
  | .cmpZpx zp8 => [0xD5, zp8]
  | .cmpAby addr16 => [0xD9, loByte addr16, hiByte addr16]
  | .cmpAbx addr16 => [0xDD, loByte addr16, hiByte addr16]
  | .cpxImm imm8 => [0xE0, imm8]
  | .cpxZp zp8 => [0xE4, zp8]
  | .cpxAbs addr16 => [0xEC, loByte addr16, hiByte addr16]
  | .cpyImm imm8 => [0xC0, imm8]
  | .cpyZp zp8 => [0xC4, zp8]
  | .cpyAbs addr16 => [0xCC, loByte addr16, hiByte addr16]
  | .incZp zp8 => [0xE6, zp8]
  | .incAbs addr16 => [0xEE, loByte addr16, hiByte addr16]
  | .incZpx zp8 => [0xF6, zp8]
  | .incAbx addr16 => [0xFE, loByte addr16, hiByte addr16]
  | .decZp zp8 => [0xC6, zp8]
  | .decAbs addr16 => [0xCE, loByte addr16, hiByte addr16]
  | .decZpx zp8 => [0xD6, zp8]
  | .decAbx addr16 => [0xDE, loByte addr16, hiByte addr16]
  | .andIzx zp8 => [0x21, zp8]
  | .andZp zp8 => [0x25, zp8]
  | .andImm imm8 => [0x29, imm8]
  | .andAbs addr16 => [0x2D, loByte addr16, hiByte addr16]
  | .andIzy zp8 => [0x31, zp8]
  | .andZpi zp8 => [0x32, zp8]
  | .andZpx zp8 => [0x35, zp8]
  | .andAby addr16 => [0x39, loByte addr16, hiByte addr16]
  | .andAbx addr16 => [0x3D, loByte addr16, hiByte addr16]
  | .oraIzx zp8 => [0x01, zp8]
  | .oraZp zp8 => [0x05, zp8]
  | .oraImm imm8 => [0x09, imm8]
  | .oraAbs addr16 => [0x0D, loByte addr16, hiByte addr16]
  | .oraIzy zp8 => [0x11, zp8]
  | .oraZpi zp8 => [0x12, zp8]
  | .oraZpx zp8 => [0x15, zp8]
  | .oraAby addr16 => [0x19, loByte addr16, hiByte addr16]
  | .oraAbx addr16 => [0x1D, loByte addr16, hiByte addr16]
  | .eorIzx zp8 => [0x41, zp8]
  | .eorZp zp8 => [0x45, zp8]
  | .eorImm imm8 => [0x49, imm8]
  | .eorAbs addr16 => [0x4D, loByte addr16, hiByte addr16]
  | .eorIzy zp8 => [0x51, zp8]
  | .eorZpi zp8 => [0x52, zp8]
  | .eorZpx zp8 => [0x55, zp8]
  | .eorAby addr16 => [0x59, loByte addr16, hiByte addr16]
  | .eorAbx addr16 => [0x5D, loByte addr16, hiByte addr16]
  | .bitZp zp8 => [0x24, zp8]
  | .bitAbs addr16 => [0x2C, loByte addr16, hiByte addr16]
  | .bitZpx zp8 => [0x34, zp8]
  | .bitAbx addr16 => [0x3C, loByte addr16, hiByte addr16]
  | .bitImm imm8 => [0x89, imm8]
  | .tsbZp zp8 => [0x04, zp8]
  | .tsbAbs addr16 => [0x0C, loByte addr16, hiByte addr16]
  | .trbZp zp8 => [0x14, zp8]
  | .trbAbs addr16 => [0x1C, loByte addr16, hiByte addr16]
  | .aslZp zp8 => [0x06, zp8]
  | .aslAbs addr16 => [0x0E, loByte addr16, hiByte addr16]
  | .aslZpx zp8 => [0x16, zp8]
  | .aslAbx addr16 => [0x1E, loByte addr16, hiByte addr16]
  | .lsrZp zp8 => [0x46, zp8]
  | .lsrAbs addr16 => [0x4E, loByte addr16, hiByte addr16]
  | .lsrZpx zp8 => [0x56, zp8]
  | .lsrAbx addr16 => [0x5E, loByte addr16, hiByte addr16]
  | .rolZp zp8 => [0x26, zp8]
  | .rolAbs addr16 => [0x2E, loByte addr16, hiByte addr16]
  | .rolZpx zp8 => [0x36, zp8]
  | .rolAbx addr16 => [0x3E, loByte addr16, hiByte addr16]
  | .rorZp zp8 => [0x66, zp8]
  | .rorAbs addr16 => [0x6E, loByte addr16, hiByte addr16]
  | .rorZpx zp8 => [0x76, zp8]
  | .rorAbx addr16 => [0x7E, loByte addr16, hiByte addr16]
  | .rmb0 zp8 => [0x07, zp8]
  | .rmb1 zp8 => [0x17, zp8]
  | .rmb2 zp8 => [0x27, zp8]
  | .rmb3 zp8 => [0x37, zp8]
  | .rmb4 zp8 => [0x47, zp8]
  | .rmb5 zp8 => [0x57, zp8]
  | .rmb6 zp8 => [0x67, zp8]
  | .rmb7 zp8 => [0x77, zp8]
  | .smb0 zp8 => [0x87, zp8]
  | .smb1 zp8 => [0x97, zp8]
  | .smb2 zp8 => [0xA7, zp8]
  | .smb3 zp8 => [0xB7, zp8]
  | .smb4 zp8 => [0xC7, zp8]
  | .smb5 zp8 => [0xD7, zp8]
  | .smb6 zp8 => [0xE7, zp8]
  | .smb7 zp8 => [0xF7, zp8]
  | .jmpAbs addr16 => [0x4C, loByte addr16, hiByte addr16]
  | .jmpInd addr16 => [0x6C, loByte addr16, hiByte addr16]
  | .jmpIax addr16 => [0x7C, loByte addr16, hiByte addr16]
  | .jsr addr16 => [0x20, loByte addr16, hiByte addr16]
  | .bpl rel8 => [0x10, rel8]
  | .bmi rel8 => [0x30, rel8]
  | .bvc rel8 => [0x50, rel8]
  | .bvs rel8 => [0x70, rel8]
  | .bcc rel8 => [0x90, rel8]
  | .bcs rel8 => [0xB0, rel8]
  | .bne rel8 => [0xD0, rel8]
  | .beq rel8 => [0xF0, rel8]
  | .bra rel8 => [0x80, rel8]
  | .bbr0 zp8 rel8 => [0x0F, zp8, rel8]
  | .bbr1 zp8 rel8 => [0x1F, zp8, rel8]
  | .bbr2 zp8 rel8 => [0x2F, zp8, rel8]
  | .bbr3 zp8 rel8 => [0x3F, zp8, rel8]
  | .bbr4 zp8 rel8 => [0x4F, zp8, rel8]
  | .bbr5 zp8 rel8 => [0x5F, zp8, rel8]
  | .bbr6 zp8 rel8 => [0x6F, zp8, rel8]
  | .bbr7 zp8 rel8 => [0x7F, zp8, rel8]
  | .bbs0 zp8 rel8 => [0x8F, zp8, rel8]
  | .bbs1 zp8 rel8 => [0x9F, zp8, rel8]
  | .bbs2 zp8 rel8 => [0xAF, zp8, rel8]
  | .bbs3 zp8 rel8 => [0xBF, zp8, rel8]
  | .bbs4 zp8 rel8 => [0xCF, zp8, rel8]
  | .bbs5 zp8 rel8 => [0xDF, zp8, rel8]
  | .bbs6 zp8 rel8 => [0xEF, zp8, rel8]
  | .bbs7 zp8 rel8 => [0xFF, zp8, rel8]
  | .nop02 ignored8 => [0x02, ignored8]
  | .nop22 ignored8 => [0x22, ignored8]
  | .nop42 ignored8 => [0x42, ignored8]
  | .nop62 ignored8 => [0x62, ignored8]
  | .nop82 ignored8 => [0x82, ignored8]
  | .nopC2 ignored8 => [0xC2, ignored8]
  | .nopE2 ignored8 => [0xE2, ignored8]
  | .nop44 ignored8 => [0x44, ignored8]
  | .nop54 ignored8 => [0x54, ignored8]
  | .nopD4 ignored8 => [0xD4, ignored8]
  | .nopF4 ignored8 => [0xF4, ignored8]
  | .nop5C ignored16 => [0x5C, loByte ignored16, hiByte ignored16]
  | .nopDC ignored16 => [0xDC, loByte ignored16, hiByte ignored16]
  | .nopFC ignored16 => [0xFC, loByte ignored16, hiByte ignored16]
  | .tax => [0xAA]
  | .tay => [0xA8]
  | .txa => [0x8A]
  | .tya => [0x98]
  | .tsx => [0xBA]
  | .txs => [0x9A]
  | .php => [0x08]
  | .pha => [0x48]
  | .phx => [0xDA]
  | .phy => [0x5A]
  | .pla => [0x68]
  | .plp => [0x28]
  | .plx => [0xFA]
  | .ply => [0x7A]
  | .incAcc => [0x1A]
  | .decAcc => [0x3A]
  | .inx => [0xE8]
  | .iny => [0xC8]
  | .dex => [0xCA]
  | .dey => [0x88]
  | .aslAcc => [0x0A]
  | .lsrAcc => [0x4A]
  | .rolAcc => [0x2A]
  | .rorAcc => [0x6A]
  | .rts => [0x60]
  | .rti => [0x40]
  | .brk => [0x00]
  | .clc => [0x18]
  | .sec => [0x38]
  | .cli => [0x58]
  | .sei => [0x78]
  | .cld => [0xD8]
  | .sed => [0xF8]
  | .clv => [0xB8]
  | .nop03 => [0x03]
  | .nop0B => [0x0B]
  | .nop13 => [0x13]
  | .nop1B => [0x1B]
  | .nop23 => [0x23]
  | .nop2B => [0x2B]
  | .nop33 => [0x33]
  | .nop3B => [0x3B]
  | .nop43 => [0x43]
  | .nop4B => [0x4B]
  | .nop53 => [0x53]
  | .nop5B => [0x5B]
  | .nop63 => [0x63]
  | .nop6B => [0x6B]
  | .nop73 => [0x73]
  | .nop7B => [0x7B]
  | .nop83 => [0x83]
  | .nop8B => [0x8B]
  | .nop93 => [0x93]
  | .nop9B => [0x9B]
  | .nopA3 => [0xA3]
  | .nopAB => [0xAB]
  | .nopB3 => [0xB3]
  | .nopBB => [0xBB]
  | .nopC3 => [0xC3]
  | .nopD3 => [0xD3]
  | .nopE3 => [0xE3]
  | .nopEB => [0xEB]
  | .nopF3 => [0xF3]
  | .nopFB => [0xFB]
  | .nop => [0xEA]
  | .wai => [0xCB]
  | .stp => [0xDB]

/-- The opcode byte of an instruction. -/
def Instr.opcode (i : Instr) : Byte := (encode i).headD 0

/-- The instruction the decoder reads from the table's numbering of bits: byte 0 is bits 7 to 0, byte 1 bits 15 to 8, byte 2 bits 23 to 16;
bits at `nbits` and above are 0. -/
def decodeTableWord (nbits w : Nat) : Option Instr :=
  let v := w % 2 ^ nbits
  match decode [BitVec.ofNat 8 v, BitVec.ofNat 8 (v / 0x100), BitVec.ofNat 8 (v / 0x10000)] with
  | .ok (i, _) => some i
  | .error _ => none

end Sys2Proof
end

