-- ==== Sys2Proof/Config.lean ====
section
/-! DEFINITION. The named parameters of 00 R8 that are fixed for the machine, and the free values (no body) of the points the
spec leaves OPEN or calls a draw. `ROM_IMAGE`, `SLOT_ROM[n]`, `EXP_ROM`, `INIT_RAM` and `INIT_REGS` are contents of State, not constants.
`DECIMAL_EXTRA_CYCLE` = 0 (R177), `UNDEF_NOP_READS` = false (R407 to R412), `STORE80_PAGE2_RANGES` = false (R73, R76) and
`IOUDIS_GATE` = open_when_clear (R106) are built into the rules that use them. -/

namespace Sys2Proof.Config

/-- `RESET_CYCLES` (R8, R500, R521). -/
def resetCycles : Nat := 7

/-- `INT_CYCLES`, the cost of IRQ and NMI entry (R8, R434, R521). -/
def intCycles : Nat := 7

/-- `HT_MAX`, the largest half-track position (R8, R455). -/
def htMax : Nat := 140

/-- `TRACK_LEN`, nibbles per track (R8, R452). -/
def trackLen : Nat := 0x1A00

/-- `IMAGE_SIZE`, bytes per drive (R8, R452). -/
def imageSize : Nat := 232960

/-- `TRACKS_IN_IMAGE` (R8, R40, R452). -/
def tracksInImage : Nat := 35

/-- `INPUT_READ_ADDRS`: pushbuttons 0 and 1, paddles 0 and 1 (R8, R107). -/
def inputReadAddrs : List Word := [0xC061, 0xC062, 0xC064, 0xC065]

/-- `PADDLE_RESET_ADDR` (R8, R108). -/
def paddleResetAddr : Word := 0xC070

/-- The addresses of 0xC000 to 0xC0FF that no other entry of the soft-switch table lists (R117, R118), as (first low byte, how many). -/
def unlistedRanges : List (Nat × Nat) := [(0x20, 0x30), (0x60, 1), (0x63, 1), (0x66, 10), (0x71, 13), (0x90, 0x50), (0xF0, 0x10)]

/-- Those addresses one by one: where an audio address can stand, since the rows of R118 are disjoint (log 5). -/
def unlistedAddrs : List Word :=
  unlistedRanges.flatMap fun r => (List.range' r.1 r.2).map fun n => BitVec.ofNat 16 (0xC000 + n)

/-- Which addresses `AUDIO_TOGGLE_ADDRS` holds: a free value (R8, R104, D33, I9, log 5). -/
opaque audioPick : Nat → Nat

/-- Addresses taken out of a list one after the other, so that no address is taken twice: each pick is a place among those left. -/
def drawAddrs : List Nat → List Word → List Word
  | [], _ => []
  | k :: ks, l => l.getD (k % l.length) 0 :: drawAddrs ks (l.eraseIdx (k % l.length))

/-- `AUDIO_TOGGLE_ADDRS` (R8, R104): a set of three addresses, whichever they are (log 5). -/
def audioToggleAddrs : List Word := drawAddrs [audioPick 0, audioPick 1, audioPick 2] unlistedAddrs

/-- The host's vertical-blank input at the draw of this number (R100, D32, I7): a free value (log 6). -/
opaque vblankDraw : Nat → Bool

/-- The byte the input collaborator answers for an address at the draw of this number (R107, D33, I8): a free value (log 6). -/
opaque inputDraw : Nat → Word → Byte

end Sys2Proof.Config
end

