-- ==== Sys2Proof/Machine/State.lean ====
section
/-! DEFINITION. The state of the block as plain data (10_state.md), the reasons a step can stop, and the machine right after reset. -/

namespace Sys2Proof.Machine

/-- The execution modes (R34). -/
inductive Mode where
  | running
  | singleStep
  | stopped
  | waiting
  deriving DecidableEq, Repr

/-- The stored status flags (R27, R28). `U` is hard-wired to 1 (R29), so it is no field: `Status.pack` supplies it (log 8). -/
structure Status where
  c : Bool
  z : Bool
  i : Bool
  d : Bool
  b : Bool
  v : Bool
  n : Bool
  deriving DecidableEq, Repr

/-- The latched mode flags of the decoder (R36), under the spec's names. -/
structure Switches where
  store80 : Bool
  ramrd : Bool
  ramwrt : Bool
  intcxrom : Bool
  altzp : Bool
  slotc3rom : Bool
  col80 : Bool
  altchar : Bool
  text : Bool
  mixed : Bool
  page2 : Bool
  hires : Bool
  dhires : Bool
  an0 : Bool
  an1 : Bool
  an2 : Bool
  an3 : Bool
  ioudis : Bool
  lcbank2 : Bool
  lcread : Bool
  lcwrite : Bool
  lcpre : Bool
  deriving DecidableEq, Repr

/-- One byte array: (index, byte) pairs, indices strictly rising, no entry equal to what an unlisted index reads as. -/
abbrev Memory := List Host.Cell

/-- The writable arrays of R35. -/
inductive Bank where
  | main
  | aux
  | lcMainB1
  | lcMainB2
  | lcMainHi
  | lcAuxB1
  | lcAuxB2
  | lcAuxHi
  deriving DecidableEq, Repr

/-- The contents of the writable arrays (R35). `main` and `aux` are indexed by the address itself (R69), a language-card
part by the address minus the part's first address (R78). -/
structure Ram where
  main : Memory
  aux : Memory
  lcMainB1 : Memory
  lcMainB2 : Memory
  lcMainHi : Memory
  lcAuxB1 : Memory
  lcAuxB2 : Memory
  lcAuxHi : Memory
  deriving DecidableEq, Repr

/-- `SLOT_ROM[1..7]` (R35): each 256 bytes, or `none` for ABSENT. -/
structure SlotRoms where
  s1 : Option Memory
  s2 : Option Memory
  s3 : Option Memory
  s4 : Option Memory
  s5 : Option Memory
  s6 : Option Memory
  s7 : Option Memory
  deriving DecidableEq, Repr

/-- The two drive units (R38). -/
inductive DriveId where
  | zero
  | one
  deriving DecidableEq, Repr

/-- One drive unit (R39). `ph`, `h1` and `h2` are phase vectors, bit k for phase k (R42). -/
structure Drive where
  data : Memory
  readonly : Bool
  motor : Bool
  writeMode : Bool
  halftrack : Nat
  track : Nat
  nibble : Nat
  ph : BitVec 4
  h1 : BitVec 4
  h2 : BitVec 4
  deriving DecidableEq, Repr

/-- The disk controller (R38): the current drive, LATCH and the two units. -/
structure Disk where
  cur : DriveId
  latch : Byte
  drv0 : Drive
  drv1 : Drive
  deriving DecidableEq, Repr

/-- The events emitted towards the collaborators (R119). `BankTag` is dropped, as R119 allows (log 11). -/
inductive Event where
  | displayInvalidate (a : Word)
  | audioToggle (a : Word)
  | paddleReset
  deriving DecidableEq, Repr

/-- The whole state. `draws` (how many host draws were taken, log 6) and `events` (what was emitted, the newest first, log 11)
are the model's own fields; every other field is the spec's (R20 to R42). -/
structure State where
  a : Byte
  x : Byte
  y : Byte
  sp : Byte
  pc : Word
  p : Status
  ticks : BitVec 64
  mode : Mode
  ram : Ram
  rom : Memory
  slotRom : SlotRoms
  expRom : Option Memory
  sw : Switches
  kbd : Byte
  disk : Disk
  draws : Nat
  events : List Event
  deriving DecidableEq, Repr

/-- Why a step stops with a fault. -/
inductive Fault where
  /-- Raised by a shift access to 0xC0EC while the current drive's track is 35 or more (R431, R463). It is the spec's own model fault.
  Safe: the model stops where the repository would index past the image. -/
  | diskTrackBeyondImage (drive : DriveId) (track : Nat)
  deriving DecidableEq, Repr

/-- Why a step is refused. -/
inductive Refusal where
  /-- Raised by an arm of `exec` that has no meaning yet. Safe: the model stops. -/
  | notModelled (mnemonic : String)
  deriving DecidableEq, Repr

/-- Every decoder flag at its power-on value 0 (R36, R503). -/
def Switches.powerOn : Switches :=
  { store80 := false, ramrd := false, ramwrt := false, intcxrom := false, altzp := false, slotc3rom := false,
    col80 := false, altchar := false, text := false, mixed := false, page2 := false, hires := false, dhires := false,
    an0 := false, an1 := false, an2 := false, an3 := false, ioudis := false,
    lcbank2 := false, lcread := false, lcwrite := false, lcpre := false }

/-- A drive "created empty", every field 0 (R39, R503). -/
def Drive.powerOn : Drive :=
  { data := [], readonly := false, motor := false, writeMode := false, halftrack := 0, track := 0, nibble := 0,
    ph := 0, h1 := 0, h2 := 0 }

/-- The controller at power-on (R38, R503). -/
def Disk.powerOn : Disk := { cur := .zero, latch := 0, drv0 := Drive.powerOn, drv1 := Drive.powerOn }

/-- Power-on (R503), with the OPEN parameters at the values of logs 1 to 4 (DESIGN CHOICE, unsafe): `INIT_REGS` is A, X, Y, SP, PC and every
stored flag, I among them, each 0 (log 1). -/
def State.powerOn : State :=
  { a := 0, x := 0, y := 0, sp := 0, pc := 0,
    p := { c := false, z := false, i := false, d := false, b := false, v := false, n := false },
    ticks := 0, mode := .running,
    ram := { main := [], aux := [], lcMainB1 := [], lcMainB2 := [], lcMainHi := [], lcAuxB1 := [], lcAuxB2 := [], lcAuxHi := [] },
    rom := [],
    slotRom := { s1 := none, s2 := none, s3 := none, s4 := none, s5 := none, s6 := some [], s7 := none },
    expRom := none, sw := Switches.powerOn, kbd := 0, disk := Disk.powerOn, draws := 0, events := [] }

/-- The machine right after its first `reset()` (R500 to R504): power-on, then SP = 0xFF, I = 1, mode = Running, ticks = `RESET_CYCLES`
and PC = the two bytes at 0xFFFC/0xFFFD, which are ROM bytes and so 0x0000 here (log 3). -/
def State.reset : State :=
  { State.powerOn with
    sp := 0xFF, pc := 0x0000, p := { State.powerOn.p with i := true }, ticks := 7, mode := .running }

end Sys2Proof.Machine
end

