-- ==== Sys2Proof/Machine/Flags.lean ====
section
/-! DEFINITION. The byte form of P and every flag computation: N and Z (10 R31), ADC and SBC binary and decimal (43 R250 to R256),
compares (R258 to R260), BIT, TSB and TRB (44 R283 to R285), shifts and rotates (R286 to R289). -/

namespace Sys2Proof.Machine

/-- One bit of a byte. -/
def flagBit (on : Bool) (k : Nat) : Byte := if on then 1#8 <<< k else 0

/-- The byte form of P (R27): bit 0 C, 1 Z, 2 I, 3 D, 4 B, 5 U, 6 V, 7 N, with U reading as 1 (R29). -/
def Status.pack (p : Status) : Byte :=
  flagBit p.c 0 ||| flagBit p.z 1 ||| flagBit p.i 2 ||| flagBit p.d 3 ||| flagBit p.b 4 ||| 0x20 ||| flagBit p.v 6 ||| flagBit p.n 7

/-- Writing the byte form of P: all bits at once except U, which stays 1 (R28, R29). -/
def Status.unpack (v : Byte) : Status :=
  { c := v.getLsbD 0, z := v.getLsbD 1, i := v.getLsbD 2, d := v.getLsbD 3, b := v.getLsbD 4, v := v.getLsbD 6, n := v.getLsbD 7 }

/-- `SetNZ(r)` (R31). -/
def Status.setNZ (p : Status) (r : Byte) : Status := { p with z := r == 0, n := r.msb }

/-- A flag as a number. -/
def carryIn (c : Bool) : Nat := if c then 1 else 0

/-- The binary overflow: the operands have one sign and the result the other (R250, R251). -/
def overflow (a m r : Byte) : Bool := ((a ^^^ r) &&& (m ^^^ r)).msb

/-- `DecimalAdd` (R252): the corrected sum before truncation, so that the carry is "256 or more". -/
def decimalAdd (a m : Byte) (c : Bool) : Nat :=
  let lo0 := a.toNat % 16 + m.toNat % 16 + carryIn c
  let lo := if 0x0A ≤ lo0 then (lo0 + 0x06) % 16 + 0x10 else lo0
  let r := a.toNat / 16 * 16 + m.toNat / 16 * 16 + lo
  if 0xA0 ≤ r then r + 0x60 else r

/-- `DecimalSub` (R255): the corrected difference before truncation; it may be negative. -/
def decimalSub (a m : Byte) (c : Bool) : Int :=
  let lo : Int := (a.toNat % 16 : Nat) - (m.toNat % 16 : Nat) + (carryIn c : Nat) - 1
  let r0 : Int := (a.toNat : Int) - (m.toNat : Int) + (carryIn c : Nat) - 1
  let r1 := if r0 < 0 then r0 - 0x60 else r0
  if lo < 0 then r1 - 0x06 else r1

/-- ADC (R251): the new accumulator and status. V is binary in both modes; in decimal mode A and C are the corrected ones. -/
def adcResult (p : Status) (a m : Byte) : Byte × Status :=
  let bin := a.toNat + m.toNat + carryIn p.c
  let p1 := { p with v := overflow a m (BitVec.ofNat 8 bin) }
  if p.d then
    let r := decimalAdd a m p.c
    let a1 := BitVec.ofNat 8 r
    (a1, { p1 with c := decide (0x100 ≤ r) }.setNZ a1)
  else
    let a1 := BitVec.ofNat 8 bin
    (a1, { p1 with c := decide (0xFF < bin) }.setNZ a1)

/-- SBC (R253): the new accumulator and status. V and C are binary in both modes (R254). -/
def sbcResult (p : Status) (a m : Byte) : Byte × Status :=
  let m1 := m ^^^ 0xFF
  let bin := a.toNat + m1.toNat + carryIn p.c
  let p1 := { p with v := overflow a m1 (BitVec.ofNat 8 bin), c := decide (0xFF < bin) }
  let a1 := if p.d then BitVec.ofInt 8 (decimalSub a m p.c) else BitVec.ofNat 8 bin
  (a1, p1.setNZ a1)

/-- CMP, CPX, CPY (R258 to R260): C is the unsigned comparison, N and Z the difference. -/
def compareFlags (p : Status) (r m : Byte) : Status :=
  { p with c := decide (m.toNat ≤ r.toNat) }.setNZ (r - m)

/-- BIT in a memory mode (R283): Z of A and M, N and V from M itself. -/
def bitFlags (p : Status) (a m : Byte) : Status :=
  { p with z := (a &&& m) == 0, n := m.getLsbD 7, v := m.getLsbD 6 }

/-- Z of A and M alone: BIT immediate, TSB, TRB (R283 to R285). -/
def testFlags (p : Status) (a m : Byte) : Status := { p with z := (a &&& m) == 0 }

/-- ASL (R286). -/
def aslResult (p : Status) (m : Byte) : Byte × Status :=
  let v := m <<< 1
  (v, { p with c := m.getLsbD 7 }.setNZ v)

/-- LSR (R287). -/
def lsrResult (p : Status) (m : Byte) : Byte × Status :=
  let v := m >>> 1
  (v, { p with c := m.getLsbD 0 }.setNZ v)

/-- ROL (R288). -/
def rolResult (p : Status) (m : Byte) : Byte × Status :=
  let v := (m <<< 1) ||| flagBit p.c 0
  (v, { p with c := m.getLsbD 7 }.setNZ v)

/-- ROR (R289). -/
def rorResult (p : Status) (m : Byte) : Byte × Status :=
  let v := (m >>> 1) ||| flagBit p.c 7
  (v, { p with c := m.getLsbD 0 }.setNZ v)

/-- INC (R261). -/
def incResult (p : Status) (m : Byte) : Byte × Status := (m + 1, p.setNZ (m + 1))

/-- DEC (R262). -/
def decResult (p : Status) (m : Byte) : Byte × Status := (m - 1, p.setNZ (m - 1))

/-- TSB (R284). -/
def tsbResult (p : Status) (a m : Byte) : Byte × Status := (m ||| a, testFlags p a m)

/-- TRB (R285). -/
def trbResult (p : Status) (a m : Byte) : Byte × Status := (m &&& ~~~a, testFlags p a m)

end Sys2Proof.Machine
end

