-- ==== Sys2Proof/Machine/Memory.lean ====
section
/-! DEFINITION. Byte arrays (10 R35): reading, storing and loading, in one canonical form. -/

namespace Sys2Proof.Machine

/-- What an index that is not listed reads as: 0x00 (a drive is "created empty", R39; for RAM and ROM logs 2 to 4). -/
def unlisted : Byte := 0x00

/-- The byte at an index. -/
def Memory.byteAt : Memory → Nat → Byte
  | [], _ => unlisted
  | (k, v) :: m, i => if k = i then v else Memory.byteAt m i

/-- Storing a byte at an index: the list stays sorted, and storing what an unlisted index reads as removes the entry. -/
def Memory.store : Memory → Nat → Byte → Memory
  | [], i, v => if v = unlisted then [] else [(i, v)]
  | (k, w) :: m, i, v =>
    if i < k then (if v = unlisted then (k, w) :: m else (i, v) :: (k, w) :: m)
    else if i = k then (if v = unlisted then m else (i, v) :: m)
    else (k, w) :: Memory.store m i v

/-- The canonical form from an index on: indices strictly rising from `lo`, no entry equal to `unlisted`. -/
def Memory.wfFrom : Nat → Memory → Bool
  | _, [] => true
  | lo, (k, v) :: m => decide (lo ≤ k) && (v != unlisted) && Memory.wfFrom (k + 1) m

/-- The canonical form. -/
def Memory.wf (m : Memory) : Bool := Memory.wfFrom 0 m

/-- The canonical form of bytes that stand at consecutive indices from `i` on. -/
def Memory.ofBytesFrom : Nat → List Byte → Memory
  | _, [] => []
  | i, b :: bs => if b = unlisted then Memory.ofBytesFrom (i + 1) bs else (i, b) :: Memory.ofBytesFrom (i + 1) bs

/-- An array's contents from a list of bytes, the first at index 0. -/
def Memory.ofBytes (bs : List Byte) : Memory := Memory.ofBytesFrom 0 bs

/-- The first `n` bytes of an array. -/
def Memory.toBytes (m : Memory) (n : Nat) : List Byte := (List.range n).map m.byteAt

/-- The contents of a writable array. -/
def Ram.bank (r : Ram) : Bank → Memory
  | .main => r.main
  | .aux => r.aux
  | .lcMainB1 => r.lcMainB1
  | .lcMainB2 => r.lcMainB2
  | .lcMainHi => r.lcMainHi
  | .lcAuxB1 => r.lcAuxB1
  | .lcAuxB2 => r.lcAuxB2
  | .lcAuxHi => r.lcAuxHi

/-- Replacing the contents of one writable array. -/
def Ram.setBank (r : Ram) (b : Bank) (m : Memory) : Ram :=
  match b with
  | .main => { r with main := m }
  | .aux => { r with aux := m }
  | .lcMainB1 => { r with lcMainB1 := m }
  | .lcMainB2 => { r with lcMainB2 := m }
  | .lcMainHi => { r with lcMainHi := m }
  | .lcAuxB1 => { r with lcAuxB1 := m }
  | .lcAuxB2 => { r with lcAuxB2 := m }
  | .lcAuxHi => { r with lcAuxHi := m }

/-- The byte of one writable array at an index. -/
def Ram.byteAt (r : Ram) (b : Bank) (i : Nat) : Byte := (r.bank b).byteAt i

/-- Storing one byte of a writable array. -/
def Ram.store (r : Ram) (b : Bank) (i : Nat) (v : Byte) : Ram := r.setBank b ((r.bank b).store i v)

/-- `SLOT_ROM[n]` for n = 1 to 7 (R35); there is no other slot. -/
def SlotRoms.slot (r : SlotRoms) : Nat → Option Memory
  | 1 => r.s1
  | 2 => r.s2
  | 3 => r.s3
  | 4 => r.s4
  | 5 => r.s5
  | 6 => r.s6
  | 7 => r.s7
  | _ => none

/-- Storing one byte of a slot ROM that is present: only the loader of a ROM image does so, no access of the machine (R87). -/
def SlotRoms.storeByte (r : SlotRoms) (n i : Nat) (v : Byte) : SlotRoms :=
  match n with
  | 1 => { r with s1 := r.s1.map (·.store i v) }
  | 2 => { r with s2 := r.s2.map (·.store i v) }
  | 3 => { r with s3 := r.s3.map (·.store i v) }
  | 4 => { r with s4 := r.s4.map (·.store i v) }
  | 5 => { r with s5 := r.s5.map (·.store i v) }
  | 6 => { r with s6 := r.s6.map (·.store i v) }
  | 7 => { r with s7 := r.s7.map (·.store i v) }
  | _ => r

end Sys2Proof.Machine
end

