-- ==== Sys2Proof/Machine/Decoder.lean ====
section
/-! DEFINITION. Bank selection (20 R66 to R89): which array, or the soft-switch table, serves an access. It is a pure function of the latched
flags, the address and the direction (R66). -/

namespace Sys2Proof.Machine

/-- What serves a read: the array's name is also the datum of the `BankTag` event (R119). -/
inductive Source where
  | ram (b : Bank)
  | rom
  | slot (n : Nat)
  | expansion
  | switch
  deriving DecidableEq, Repr

/-- What takes a write. -/
inductive Sink where
  | ram (b : Bank)
  | discard
  | switch
  deriving DecidableEq, Repr

/-- The index of an address in a writable array: the address itself in MAIN and AUX (R69), the offset in a language-card part (R78).
A part starts at a multiple of its size, so the offset is the remainder. -/
def Bank.index (b : Bank) (a : Word) : Nat :=
  match b with
  | .main | .aux => a.toNat
  | .lcMainB1 | .lcMainB2 | .lcAuxB1 | .lcAuxB2 => a.toNat % 0x1000
  | .lcMainHi | .lcAuxHi => a.toNat % 0x2000

/-- `RamBank(a, is_write)` (R69 to R76), for 0x0000 to 0xBFFF. -/
def ramBank (sw : Switches) (a : Word) (isWrite : Bool) : Bank :=
  let n := a.toNat
  if n < 0x0200 then (if sw.altzp then .aux else .main)
  else if 0x0400 ≤ n ∧ n < 0x0800 ∧ sw.store80 then (if sw.page2 then .aux else .main)
  else if 0x2000 ≤ n ∧ n < 0x4000 ∧ sw.store80 ∧ sw.hires then (if sw.page2 then .aux else .main)
  else if (if isWrite then sw.ramwrt else sw.ramrd) then .aux else .main

/-- `LcCell(a)` (R78), for 0xD000 to 0xFFFF. -/
def lcBank (sw : Switches) (a : Word) : Bank :=
  if a.toNat < 0xE000 then
    (if sw.altzp then (if sw.lcbank2 then .lcAuxB2 else .lcAuxB1) else (if sw.lcbank2 then .lcMainB2 else .lcMainB1))
  else (if sw.altzp then .lcAuxHi else .lcMainHi)

/-- What serves a read of an address (R67 to R80, R84 to R86, R90). -/
def source (sw : Switches) (a : Word) : Source :=
  let n := a.toNat
  if n < 0xC000 then .ram (ramBank sw a false)
  else if n < 0xC100 then .switch
  else if n < 0xC800 then
    (if sw.intcxrom || (n / 256 == 0xC3 && !sw.slotc3rom) then .rom else .slot (n / 256 % 16))
  else if n < 0xD000 then (if sw.intcxrom || !sw.slotc3rom then .rom else .expansion)
  else if sw.lcread then .ram (lcBank sw a) else .rom

/-- What takes a write to an address (R67 to R77, R81, R83, R87, R90). -/
def sink (sw : Switches) (a : Word) : Sink :=
  let n := a.toNat
  if n < 0xC000 then .ram (ramBank sw a true)
  else if n < 0xC100 then .switch
  else if n < 0xD000 then .discard
  else if sw.lcwrite then .ram (lcBank sw a) else .discard

/-- The index of an address in the fixed ROM (R80, R84 to R86). -/
def romIndex (a : Word) : Nat := a.toNat % 0x4000

/-- The index of an address in its slot's ROM (R84, R85). -/
def slotIndex (a : Word) : Nat := a.toNat % 0x100

/-- The index of an address in the expansion ROM (R86). -/
def expansionIndex (a : Word) : Nat := a.toNat % 0x800

end Sys2Proof.Machine
end

