-- ==== Sys2Proof/Machine/Disk.lean ====
section
/-! DEFINITION. The disk controller (60 R450 to R467): the operations behind the offsets 0x0 to 0xF of slot 6. -/

namespace Sys2Proof.Machine

/-- A unit by its number. -/
def Disk.drive (k : Disk) : DriveId → Drive
  | .zero => k.drv0
  | .one => k.drv1

/-- Replacing a unit. -/
def Disk.setDrive (k : Disk) (n : DriveId) (d : Drive) : Disk :=
  match n with
  | .zero => { k with drv0 := d }
  | .one => { k with drv1 := d }

/-- The current unit, `DRV[cur]` (R453). -/
def Disk.current (k : Disk) : Drive := k.drive k.cur

/-- Replacing the current unit. -/
def Disk.setCurrent (k : Disk) (d : Drive) : Disk := k.setDrive k.cur d

/-- The other unit, `1 - n`. -/
def DriveId.other : DriveId → DriveId
  | .zero => .one
  | .one => .zero

/-- A phase vector with phase `k` switched on or off. -/
def setPhase (ph : BitVec 4) (k : Nat) (on : Bool) : BitVec 4 :=
  if on then ph ||| (1#4 <<< k) else ph &&& ~~~(1#4 <<< k)

/-- Where an energize of phase `k` moves the head, by the vector two changes back (R456): inward floored at 0, outward capped at `HT_MAX`. -/
def headMove (h2 : BitVec 4) (k halftrack : Nat) : Nat :=
  if h2.getLsbD ((k + 1) % 4) then halftrack - 1
  else if h2.getLsbD ((k + 3) % 4) then min Config.htMax (halftrack + 1)
  else halftrack

/-- `PhaseAccess(k, on)` (R456): an access that does not change the vector changes nothing (R457). -/
def phaseAccess (k : Nat) (on : Bool) (d : Drive) : Drive :=
  if d.ph.getLsbD k = on then d
  else
    let ht := if on then headMove d.h1 k d.halftrack else d.halftrack
    { d with h2 := d.h1, h1 := d.ph, ph := setPhase d.ph k on, halftrack := ht, track := (ht + 1) / 2 }

/-- Setting the current unit's motor (R461, R88). -/
def Disk.setMotor (k : Disk) (on : Bool) : Disk := k.setCurrent { k.current with motor := on }

/-- Setting the current unit's write mode (R465, R466). -/
def Disk.setWriteMode (k : Disk) (on : Bool) : Disk := k.setCurrent { k.current with writeMode := on }

/-- `SetDrive(n)` (R462): the running motor moves to unit `n`, the other unit's motor is off, and `n` is current. -/
def selectDrive (n : DriveId) (k : Disk) : Disk :=
  let m := (k.drive n).motor || (k.drive n.other).motor
  let k1 := k.setDrive n { k.drive n with motor := m }
  let k2 := k1.setDrive n.other { k1.drive n.other with motor := false }
  { k2 with cur := n }

/-- `ShiftLatch()` (R463), or the fault of R431. -/
def shiftLatch (k : Disk) : Except Fault Disk :=
  let d := k.current
  if Config.tracksInImage ≤ d.track then .error (.diskTrackBeyondImage k.cur d.track)
  else
    let i := Config.trackLen * d.track + d.nibble
    let next := (d.nibble + 1) % Config.trackLen
    if d.writeMode then .ok (k.setCurrent { d with data := d.data.store i k.latch, nibble := next })
    else .ok ({ k with latch := d.data.byteAt i }.setCurrent { d with nibble := next })

/-- The operations that reads and writes share (R451): all offsets but 0xC and 0xD. -/
def diskTouch (off : Nat) (k : Disk) : Disk :=
  if off < 8 then k.setCurrent (phaseAccess (off / 2) (off % 2 == 1) k.current)
  else if off = 0x8 then k.setMotor false
  else if off = 0x9 then k.setMotor true
  else if off = 0xA then selectDrive .zero k
  else if off = 0xB then selectDrive .one k
  else if off = 0xE then k.setWriteMode false
  else if off = 0xF then k.setWriteMode true
  else k

/-- A read access at an offset: the byte returned and the controller after it, where `floating` is the floating-bus value (R451, R460 to R466). -/
def diskRead (off : Nat) (floating : Byte) (k : Disk) : Except Fault (Byte × Disk) :=
  if off = 0xC then
    match shiftLatch k with
    | .ok k' => .ok (k'.latch, k')
    | .error f => .error f
  else if off = 0xE then
    .ok (if k.current.readonly then 0x80 else 0x00, (diskTouch off k).setMotor false)
  else .ok (floating, diskTouch off k)

/-- A write access at an offset (R451, R460 to R466): only offset 0xD uses the value (R467). -/
def diskWrite (off : Nat) (v : Byte) (k : Disk) : Except Fault Disk :=
  if off = 0xC then shiftLatch k
  else if off = 0xD then .ok { k with latch := v }
  else .ok (diskTouch off k)

end Sys2Proof.Machine
end

