-- ==== Sys2Proof/Machine/SoftSwitch.lean ====
section
/-! DEFINITION. The soft-switch decision table of 0xC000 to 0xC0FF (20 R90 to R118) and the result type of an access. -/

namespace Sys2Proof.Machine

/-- What a part of an instruction answers: a value and the state after it, or the model fault (R431). -/
inductive Res (α : Type) where
  | ok (v : α) (s : State)
  | stop (f : Fault)
  deriving DecidableEq, Repr

/-- One part after another. -/
def Res.bind {α β : Type} (r : Res α) (k : α → State → Res β) : Res β :=
  match r with
  | .ok v s => k v s
  | .stop f => .stop f

/-- Emitting an event (R119): the newest first. -/
def State.emit (s : State) (e : Event) : State := { s with events := e :: s.events }

/-- The floating-bus value, `ticks & 0xFF` (R92). -/
def floatingBus (s : State) : Byte := s.ticks.setWidth 8

/-- The entries of the table (R118). `k` numbers the flag of a list, `on` is address bit 0. -/
inductive SwitchEntry where
  /-- 0xC000 to 0xC00F (R93, R95). -/
  | flagPair (k : Nat) (on : Bool)
  /-- 0xC010 (R96). -/
  | strobe
  /-- 0xC011 to 0xC01F, by the low digit (R97, R98). -/
  | status (k : Nat)
  /-- 0xC050 to 0xC057 (R101). -/
  | display (k : Nat) (on : Bool)
  /-- 0xC058 to 0xC05F (R105, R106). -/
  | annunciator (k : Nat) (on : Bool)
  /-- `INPUT_READ_ADDRS` (R107). -/
  | input
  /-- `PADDLE_RESET_ADDR` (R108). -/
  | paddleReset
  /-- 0xC07E (R109). -/
  | ioudisSet
  /-- 0xC07F (R109). -/
  | ioudisClear
  /-- 0xC080 to 0xC08F, by the low digit (R110 to R114). -/
  | languageCard (k : Nat)
  /-- 0xC0E0 to 0xC0EF, by the offset (R116). -/
  | disk (off : Nat)
  /-- `AUDIO_TOGGLE_ADDRS`, three of the addresses no other entry lists (R104, R117, log 5). -/
  | audio
  /-- Every other address (R90, R117). -/
  | unlisted
  deriving DecidableEq, Repr

/-- Whether an address is one of the three OPEN audio addresses (R104). -/
def isAudioToggle (a : Word) : Bool := decide (a ∈ Config.audioToggleAddrs)

/-- The entry of an address of 0xC000 to 0xC0FF, by its low byte (R118). -/
def switchEntry (a : Word) : SwitchEntry :=
  let n := (loByte a).toNat
  if n < 0x10 then .flagPair (n / 2) (n % 2 == 1)
  else if n = 0x10 then .strobe
  else if n < 0x20 then .status (n % 0x10)
  else if 0x50 ≤ n ∧ n < 0x58 then .display (n % 8 / 2) (n % 2 == 1)
  else if 0x58 ≤ n ∧ n < 0x60 then .annunciator (n % 8 / 2) (n % 2 == 1)
  else if a ∈ Config.inputReadAddrs then .input
  else if a = Config.paddleResetAddr then .paddleReset
  else if n = 0x7E then .ioudisSet
  else if n = 0x7F then .ioudisClear
  else if 0x80 ≤ n ∧ n < 0x90 then .languageCard (n % 0x10)
  else if 0xE0 ≤ n ∧ n < 0xF0 then .disk (n % 0x10)
  else if isAudioToggle a then .audio
  else .unlisted

/-- Flag number `k` of the list [STORE80, RAMRD, RAMWRT, INTCXROM, ALTZP, SLOTC3ROM, COL80, ALTCHAR] (R93). -/
def setPairFlag (k : Nat) (on : Bool) (sw : Switches) : Switches :=
  match k with
  | 0 => { sw with store80 := on }
  | 1 => { sw with ramrd := on }
  | 2 => { sw with ramwrt := on }
  | 3 => { sw with intcxrom := on }
  | 4 => { sw with altzp := on }
  | 5 => { sw with slotc3rom := on }
  | 6 => { sw with col80 := on }
  | _ => { sw with altchar := on }

/-- Flag number `k` of the list [TEXT, MIXED, PAGE2, HIRES] (R101). -/
def setDisplayFlag (k : Nat) (on : Bool) (sw : Switches) : Switches :=
  match k with
  | 0 => { sw with text := on }
  | 1 => { sw with mixed := on }
  | 2 => { sw with page2 := on }
  | _ => { sw with hires := on }

/-- The annunciator latch `ANk`, gated by IOUDIS = 0; the AN3 pair also drives DHIRES, set by 0xC05E and cleared by 0xC05F (R105, R106). -/
def setAnnunciator (k : Nat) (on : Bool) (sw : Switches) : Switches :=
  if sw.ioudis then sw
  else
    match k with
    | 0 => { sw with an0 := on }
    | 1 => { sw with an1 := on }
    | 2 => { sw with an2 := on }
    | _ => { sw with an3 := on, dhires := !on }

/-- A language-card access at the low digit `k` (R110 to R112). -/
def languageCardAccess (k : Nat) (isRead : Bool) (sw : Switches) : Switches :=
  let odd := k % 2 == 1
  { sw with
    lcbank2 := decide (k < 8)
    lcread := decide (k % 4 = 0 ∨ k % 4 = 3)
    lcwrite := odd && (sw.lcwrite || sw.lcpre)
    lcpre := odd && isRead }

/-- The flag a status address reports, by its low digit; 0xC019 is no flag (R98). -/
def statusFlag (k : Nat) (sw : Switches) : Bool :=
  match k with
  | 0x1 => sw.lcbank2
  | 0x2 => sw.lcread
  | 0x3 => sw.ramrd
  | 0x4 => sw.ramwrt
  | 0x5 => sw.intcxrom
  | 0x6 => sw.altzp
  | 0x7 => sw.slotc3rom
  | 0x8 => sw.store80
  | 0xA => sw.text
  | 0xB => sw.mixed
  | 0xC => sw.page2
  | 0xD => sw.hires
  | 0xE => sw.altchar
  | 0xF => sw.col80
  | _ => false

/-- The byte of a status read: bit 7 only (R97). -/
def statusByte (on : Bool) : Byte := if on then 0x80 else 0x00

/-- A read of 0xC019: the host's vertical-blank input at this draw (R100, log 6). -/
def readVblank (s : State) : Res Byte :=
  .ok (statusByte (Config.vblankDraw s.draws)) { s with draws := s.draws + 1 }

/-- A read of an input address: the collaborator's byte at this draw (R107, log 6). -/
def readInput (a : Word) (s : State) : Res Byte :=
  .ok (Config.inputDraw s.draws a) { s with draws := s.draws + 1 }

/-- The effect that reads and writes of an address share (R101, R104 to R106, R108). -/
def switchTouch (a : Word) (s : State) : State :=
  match switchEntry a with
  | .display k on => { s with sw := setDisplayFlag k on s.sw }.emit (.displayInvalidate a)
  | .annunciator k on => { s with sw := setAnnunciator k on s.sw }
  | .paddleReset => s.emit .paddleReset
  | .audio => s.emit (.audioToggle a)
  | _ => s

/-- A read of 0xC000 to 0xC0FF (R118, column R). -/
def switchRead (a : Word) (s : State) : Res Byte :=
  match switchEntry a with
  | .flagPair _ _ => .ok s.kbd s
  | .strobe => .ok (s.kbd &&& 0x7F) { s with kbd := s.kbd &&& 0x7F }
  | .status k => if k = 0x9 then readVblank s else .ok (statusByte (statusFlag k s.sw)) s
  | .input => readInput a s
  | .ioudisSet => .ok (statusByte s.sw.ioudis) s
  | .ioudisClear => .ok (statusByte s.sw.dhires) s
  | .languageCard k => .ok (floatingBus s) { s with sw := languageCardAccess k true s.sw }
  | .disk off =>
    match diskRead off (floatingBus s) s.disk with
    | .ok (v, k) => .ok v { s with disk := k }
    | .error f => .stop f
  | .display _ _ | .annunciator _ _ | .paddleReset | .audio | .unlisted => .ok (floatingBus s) (switchTouch a s)

/-- A write of 0xC000 to 0xC0FF (R118, column W). -/
def switchWrite (a : Word) (v : Byte) (s : State) : Res Unit :=
  match switchEntry a with
  | .flagPair k on => .ok () { s with sw := setPairFlag k on s.sw }
  | .strobe | .status _ | .input => .ok () s
  | .ioudisSet => .ok () { s with sw := { s.sw with ioudis := true } }
  | .ioudisClear => .ok () { s with sw := { s.sw with ioudis := false } }
  | .languageCard k => .ok () { s with sw := languageCardAccess k false s.sw }
  | .disk off =>
    match diskWrite off v s.disk with
    | .ok k => .ok () { s with disk := k }
    | .error f => .stop f
  | .display _ _ | .annunciator _ _ | .paddleReset | .audio | .unlisted => .ok () (switchTouch a s)

end Sys2Proof.Machine
end

