-- ==== Sys2Proof/Machine/Ops.lean ====
section
/-! DEFINITION. The named operations over memory and registers: one access through the decoder (20 R60), the stack (42 R230), entering a
handler (45 R376, 60 R434) and returning from one (45 R345), and the cost of an instruction (40 R177). -/

namespace Sys2Proof.Machine

/-- The side effect of an access to 0xCFFF (R88): the current drive's motor stops. No other address outside 0xC000 to 0xC0FF has one (R65). -/
def expansionOff (a : Word) (s : State) : State :=
  if a = 0xCFFF then { s with disk := s.disk.setMotor false } else s

/-- The byte of a ROM that may be absent: absent reads as the floating bus (R84 to R86). -/
def romByte (m : Option Memory) (i : Nat) (s : State) : Byte :=
  match m with
  | some m => m.byteAt i
  | none => floatingBus s

/-- The byte an address outside 0xC000 to 0xC0FF reads as now, and no side effect: the "read of one byte" of the frame statements. -/
def peek (a : Word) (s : State) : Byte :=
  match source s.sw a with
  | .ram b => s.ram.byteAt b (b.index a)
  | .rom => s.rom.byteAt (romIndex a)
  | .slot n => romByte (s.slotRom.slot n) (slotIndex a) s
  | .expansion => romByte s.expRom (expansionIndex a) s
  | .switch => floatingBus s

/-- `MemRead(addr, 1)` (R60): one read access. -/
def read (a : Word) (s : State) : Res Byte :=
  match source s.sw a with
  | .switch => switchRead a s
  | _ => .ok (peek a s) (expansionOff a s)

/-- `MemWrite(addr, 1, v)` (R60): one write access. -/
def write (a : Word) (v : Byte) (s : State) : Res Unit :=
  match sink s.sw a with
  | .switch => switchWrite a v s
  | .ram b => .ok () { s with ram := s.ram.store b (b.index a) v }
  | .discard => .ok () (expansionOff a s)

/-- `Read16(lo_addr, hi_addr)` (R11): the read at `lo_addr` happens first. -/
def read16 (lo hi : Word) (s : State) : Res Word :=
  (read lo s).bind fun l s1 => (read hi s1).bind fun h s2 => .ok (joinBytes l h) s2

/-- `0x0100 | SP` (R230). -/
def stackAddr (sp : Byte) : Word := 0x0100 ||| zext16 sp

/-- `Push(v)` (R230): write, then decrement. -/
def push (v : Byte) (s : State) : Res Unit :=
  (write (stackAddr s.sp) v s).bind fun _ s1 => .ok () { s1 with sp := s1.sp - 1 }

/-- `Pull()` (R230): increment, then read. -/
def pull (s : State) : Res Byte :=
  read (stackAddr (s.sp + 1)) { s with sp := s.sp + 1 }

/-- Pushing a 16-bit value, high byte first (R343, R376, R434). -/
def pushWord (w : Word) (s : State) : Res Unit :=
  (push (hiByte w) s).bind fun _ s1 => push (loByte w) s1

/-- Pulling a 16-bit value, low byte first (R344, R345). -/
def pullWord (s : State) : Res Word :=
  (pull s).bind fun l s1 => (pull s1).bind fun h s2 => .ok (joinBytes l h) s2

/-- Entering a handler, the sequence BRK, IRQ and NMI share (R376, R434): push PC and P with bit 4 set as given, set I, clear D,
and load PC from the vector through the decoder (R432). -/
def enterHandler (vector : Word) (brk : Bool) (s : State) : Res Unit :=
  (pushWord s.pc s).bind fun _ s1 =>
    let s2 := { s1 with p := { s1.p with b := brk } }
    (push s2.p.pack s2).bind fun _ s3 =>
      let s4 := { s3 with p := { s3.p with i := true, d := false } }
      (read16 vector (vector + 1) s4).bind fun target s5 => .ok () { s5 with pc := target }

/-- Returning from a handler (R345, R438): pull P, then PC. -/
def returnFromHandler (s : State) : Res Unit :=
  (pull s).bind fun v s1 =>
    let s2 := { s1 with p := Status.unpack v }
    (pullWord s2).bind fun target s3 => .ok () { s3 with pc := target }

/-- `ticks <- ticks + n` (R11, R33), modulo 2^64. -/
def State.tick (s : State) (n : Nat) : State := { s with ticks := s.ticks + BitVec.ofNat 64 n }

/-- What a meaning answers. -/
abbrev Result := Host.Outcome State Fault Refusal

/-- The outcome of an instruction whose last part answered this. -/
def Res.outcome (r : Res Unit) : Result :=
  match r with
  | .ok _ s => .next s
  | .stop f => .fault f

/-- Placing one byte in the array that serves a read of this address now: what a loader outside the machine does, used by
`State.withFetchWord` only. Where no array serves the address, nothing is placed. -/
def placeByte (a : Word) (v : Byte) (s : State) : State :=
  match source s.sw a with
  | .ram b => { s with ram := s.ram.store b (b.index a) v }
  | .rom => { s with rom := s.rom.store (romIndex a) v }
  | .slot n => { s with slotRom := s.slotRom.storeByte n (slotIndex a) v }
  | .expansion => { s with expRom := s.expRom.map (·.store (expansionIndex a) v) }
  | .switch => s

end Sys2Proof.Machine
end

