-- ==== Sys2Proof/Machine/Operands.lean ====
section
/-! DEFINITION. The addressing modes (40 R175 to R188), the access classes (R191 to R193) and the cost adjustments (R177, R189, R190). -/

namespace Sys2Proof.Machine

/-- The memory modes (R141), each with its operand field. -/
inductive MemMode where
  | zp (zp8 : Byte)
  | zpx (zp8 : Byte)
  | zpy (zp8 : Byte)
  | abs (addr16 : Word)
  | abx (addr16 : Word)
  | aby (addr16 : Word)
  | izx (zp8 : Byte)
  | izy (zp8 : Byte)
  | zpi (zp8 : Byte)
  deriving DecidableEq, Repr

/-- The operand of a reading instruction: immediate or in memory (R174). -/
inductive Operand where
  | imm (imm8 : Byte)
  | mem (m : MemMode)
  deriving DecidableEq, Repr

/-- The operand of a read-modify-write instruction: the accumulator or memory (R174, R176). -/
inductive Location where
  | acc
  | mem (m : MemMode)
  deriving DecidableEq, Repr

/-- Base cost and whether the entry is marked `+p` (R144, R189). -/
structure Cost where
  base : Nat
  pagePenalty : Bool
  deriving DecidableEq, Repr

/-- The page-crossing test: the pre-index low byte plus the index value exceeds 0xFF (R182, R184). -/
def crossesPage (base : Word) (index : Byte) : Bool := decide (0xFF < base.toNat % 0x100 + index.toNat)

/-- A pointer in the zero page, low byte then high byte, wrapping in the page (R183 to R185). -/
def zeroPagePointer (z : Byte) (s : State) : Res Word := read16 (zext16 z) (zext16 (z + 1)) s

/-- The effective address of a memory mode and whether it crosses a page (R179 to R185). -/
def effectiveAddress (m : MemMode) (s : State) : Res (Word × Bool) :=
  match m with
  | .zp z => .ok (zext16 z, false) s
  | .zpx z => .ok (zext16 (z + s.x), false) s
  | .zpy z => .ok (zext16 (z + s.y), false) s
  | .abs w => .ok (w, false) s
  | .abx w => .ok (w + zext16 s.x, crossesPage w s.x) s
  | .aby w => .ok (w + zext16 s.y, crossesPage w s.y) s
  | .izx z => (zeroPagePointer (z + s.x) s).bind fun p s1 => .ok (p, false) s1
  | .izy z => (zeroPagePointer z s).bind fun p s1 => .ok (p + zext16 s1.y, crossesPage p s1.y) s1
  | .zpi z => (zeroPagePointer z s).bind fun p s1 => .ok (p, false) s1

/-- The instruction's cost added to `ticks` at its end (R177, R189). -/
def charge (c : Cost) (cross : Bool) (s : State) : State :=
  s.tick (c.base + if c.pagePenalty && cross then 1 else 0)

/-- The read class (R191): the operand is read once, then the registers change by `k`. -/
def withRead (o : Operand) (c : Cost) (k : Byte → State → State) (s : State) : Result :=
  match o with
  | .imm v => .next (charge c false (k v s))
  | .mem m =>
    ((effectiveAddress m s).bind fun (a, cross) s1 =>
      (read a s1).bind fun v s2 => .ok () (charge c cross (k v s2))).outcome

/-- The write class (R191): one write of the register's value and no read. -/
def withWrite (m : MemMode) (c : Cost) (v : State → Byte) (s : State) : Result :=
  ((effectiveAddress m s).bind fun (a, cross) s1 =>
    (write a (v s1) s1).bind fun _ s2 => .ok () (charge c cross s2)).outcome

/-- The read-modify-write class (R191, R192): one read, one write of the result, and the status `f` gives. The status does not
act on the write, so it makes no difference on which side of it the flags are set (log 15). -/
def withModify (l : Location) (c : Cost) (f : State → Byte → Byte × Status) (s : State) : Result :=
  match l with
  | .acc => .next (charge c false { s with a := (f s s.a).1, p := (f s s.a).2 })
  | .mem m =>
    ((effectiveAddress m s).bind fun (a, cross) s1 =>
      (read a s1).bind fun v s2 =>
        (write a (f s2 v).1 s2).bind fun _ s3 => .ok () (charge c cross { s3 with p := (f s2 v).2 })).outcome

/-- The class that makes no access (R191): the registers change by `k`. -/
def withNone (c : Nat) (k : State → State) (s : State) : Result := .next ((k s).tick c)

/-- `branch_penalty` for the page (R190): 1 if the target lies in another page than the address after the instruction. -/
def pageChange (after target : Word) : Nat := if hiByte target = hiByte after then 0 else 1

/-- The target of a relative branch (R187, R188): PC is the address after the instruction (R171). -/
def branchTarget (rel : Byte) (s : State) : Word := s.pc + sext16 rel

/-- A conditional branch of base cost `base` (R190, R346 to R353): a taken branch costs 1 more, and 1 more across a page. -/
def branchIf (base : Nat) (taken : Bool) (rel : Byte) (s : State) : State :=
  if taken then { s with pc := branchTarget rel s }.tick (base + 1 + pageChange s.pc (branchTarget rel s))
  else s.tick base

/-- BBRn and BBSn (R188, R355 to R370): one read of the zero-page byte, branch if its bit `k` is `want`. -/
def branchOnBit (k : Nat) (want : Bool) (z rel : Byte) (s : State) : Result :=
  ((read (zext16 z) s).bind fun v s1 => .ok () (branchIf 5 (v.getLsbD k == want) rel s1)).outcome

/-- RMBn (R291 to R298): clearing bit `k` of a zero-page byte. -/
def resetBit (k : Nat) (z : Byte) (s : State) : Result :=
  withModify (.mem (.zp z)) ⟨5, false⟩ (fun s v => (v &&& ~~~(1#8 <<< k), s.p)) s

/-- SMBn (R299 to R306): setting bit `k` of a zero-page byte. -/
def setBit (k : Nat) (z : Byte) (s : State) : Result :=
  withModify (.mem (.zp z)) ⟨5, false⟩ (fun s v => (v ||| (1#8 <<< k), s.p)) s

/-- The push instructions (R232 to R235), 3 cycles. -/
def withPush (v : State → Byte) (s : State) : Result :=
  ((push (v s) s).bind fun _ s1 => .ok () (s1.tick 3)).outcome

/-- The pull instructions (R236 to R239), 4 cycles. -/
def withPull (k : Byte → State → State) (s : State) : Result :=
  ((pull s).bind fun v s1 => .ok () ((k v s1).tick 4)).outcome

/-- Jumping through a pointer (R186, R341, R342): the high byte comes from the next address, across a page end too. -/
def jumpThrough (p : Word) (s : State) : Result :=
  ((read16 p (p + 1) s).bind fun target s1 => .ok () ({ s1 with pc := target }.tick 6)).outcome

end Sys2Proof.Machine
end

