-- ==== Sys2Proof/Machine/Arithmetic.lean ====
section
/-! DEFINITION. Arithmetic, compare, increment and decrement (43 R250 to R267). -/

namespace Sys2Proof.Machine

/-- ADC (R251): A and the flags N, V, Z, C as `adcResult` gives them. -/
def opAdc (o : Operand) (c : Cost) (s : State) : Result :=
  withRead o c (fun m s => { s with a := (adcResult s.p s.a m).1, p := (adcResult s.p s.a m).2 }) s

/-- 61 ADC izx, 6 cycles (R251). -/
def execAdcIzx (zp8 : Byte) (s : State) : Result := opAdc (.mem (.izx zp8)) ⟨6, false⟩ s

/-- 65 ADC zp, 3 cycles (R251). -/
def execAdcZp (zp8 : Byte) (s : State) : Result := opAdc (.mem (.zp zp8)) ⟨3, false⟩ s

/-- 69 ADC imm, 2 cycles (R251). -/
def execAdcImm (imm8 : Byte) (s : State) : Result := opAdc (.imm imm8) ⟨2, false⟩ s

/-- 6D ADC abs, 4 cycles (R251). -/
def execAdcAbs (addr16 : Word) (s : State) : Result := opAdc (.mem (.abs addr16)) ⟨4, false⟩ s

/-- 71 ADC izy, 5+p cycles (R251). -/
def execAdcIzy (zp8 : Byte) (s : State) : Result := opAdc (.mem (.izy zp8)) ⟨5, true⟩ s

/-- 72 ADC zpi, 5 cycles (R251). -/
def execAdcZpi (zp8 : Byte) (s : State) : Result := opAdc (.mem (.zpi zp8)) ⟨5, false⟩ s

/-- 75 ADC zpx, 4 cycles (R251). -/
def execAdcZpx (zp8 : Byte) (s : State) : Result := opAdc (.mem (.zpx zp8)) ⟨4, false⟩ s

/-- 79 ADC aby, 4+p cycles (R251). -/
def execAdcAby (addr16 : Word) (s : State) : Result := opAdc (.mem (.aby addr16)) ⟨4, true⟩ s

/-- 7D ADC abx, 4+p cycles (R251). -/
def execAdcAbx (addr16 : Word) (s : State) : Result := opAdc (.mem (.abx addr16)) ⟨4, true⟩ s

/-- SBC (R253): A and the flags N, V, Z, C as `sbcResult` gives them. -/
def opSbc (o : Operand) (c : Cost) (s : State) : Result :=
  withRead o c (fun m s => { s with a := (sbcResult s.p s.a m).1, p := (sbcResult s.p s.a m).2 }) s

/-- E1 SBC izx, 6 cycles (R253). -/
def execSbcIzx (zp8 : Byte) (s : State) : Result := opSbc (.mem (.izx zp8)) ⟨6, false⟩ s

/-- E5 SBC zp, 3 cycles (R253). -/
def execSbcZp (zp8 : Byte) (s : State) : Result := opSbc (.mem (.zp zp8)) ⟨3, false⟩ s

/-- E9 SBC imm, 2 cycles (R253). -/
def execSbcImm (imm8 : Byte) (s : State) : Result := opSbc (.imm imm8) ⟨2, false⟩ s

/-- ED SBC abs, 4 cycles (R253). -/
def execSbcAbs (addr16 : Word) (s : State) : Result := opSbc (.mem (.abs addr16)) ⟨4, false⟩ s

/-- F1 SBC izy, 5+p cycles (R253). -/
def execSbcIzy (zp8 : Byte) (s : State) : Result := opSbc (.mem (.izy zp8)) ⟨5, true⟩ s

/-- F2 SBC zpi, 5 cycles (R253). -/
def execSbcZpi (zp8 : Byte) (s : State) : Result := opSbc (.mem (.zpi zp8)) ⟨5, false⟩ s

/-- F5 SBC zpx, 4 cycles (R253). -/
def execSbcZpx (zp8 : Byte) (s : State) : Result := opSbc (.mem (.zpx zp8)) ⟨4, false⟩ s

/-- F9 SBC aby, 4+p cycles (R253). -/
def execSbcAby (addr16 : Word) (s : State) : Result := opSbc (.mem (.aby addr16)) ⟨4, true⟩ s

/-- FD SBC abx, 4+p cycles (R253). -/
def execSbcAbx (addr16 : Word) (s : State) : Result := opSbc (.mem (.abx addr16)) ⟨4, true⟩ s

/-- CMP (R258): the flags of A compared with M; no register changes. -/
def opCmp (o : Operand) (c : Cost) (s : State) : Result :=
  withRead o c (fun m s => { s with p := compareFlags s.p s.a m }) s

/-- C1 CMP izx, 6 cycles (R258). -/
def execCmpIzx (zp8 : Byte) (s : State) : Result := opCmp (.mem (.izx zp8)) ⟨6, false⟩ s

/-- C5 CMP zp, 3 cycles (R258). -/
def execCmpZp (zp8 : Byte) (s : State) : Result := opCmp (.mem (.zp zp8)) ⟨3, false⟩ s

/-- C9 CMP imm, 2 cycles (R258). -/
def execCmpImm (imm8 : Byte) (s : State) : Result := opCmp (.imm imm8) ⟨2, false⟩ s

/-- CD CMP abs, 4 cycles (R258). -/
def execCmpAbs (addr16 : Word) (s : State) : Result := opCmp (.mem (.abs addr16)) ⟨4, false⟩ s

/-- D1 CMP izy, 5+p cycles (R258). -/
def execCmpIzy (zp8 : Byte) (s : State) : Result := opCmp (.mem (.izy zp8)) ⟨5, true⟩ s

/-- D2 CMP zpi, 5 cycles (R258). -/
def execCmpZpi (zp8 : Byte) (s : State) : Result := opCmp (.mem (.zpi zp8)) ⟨5, false⟩ s

/-- D5 CMP zpx, 4 cycles (R258). -/
def execCmpZpx (zp8 : Byte) (s : State) : Result := opCmp (.mem (.zpx zp8)) ⟨4, false⟩ s

/-- D9 CMP aby, 4+p cycles (R258). -/
def execCmpAby (addr16 : Word) (s : State) : Result := opCmp (.mem (.aby addr16)) ⟨4, true⟩ s

/-- DD CMP abx, 4+p cycles (R258). -/
def execCmpAbx (addr16 : Word) (s : State) : Result := opCmp (.mem (.abx addr16)) ⟨4, true⟩ s

/-- CPX (R259): the flags of X compared with M; no register changes. -/
def opCpx (o : Operand) (c : Cost) (s : State) : Result :=
  withRead o c (fun m s => { s with p := compareFlags s.p s.x m }) s

/-- E0 CPX imm, 2 cycles (R259). -/
def execCpxImm (imm8 : Byte) (s : State) : Result := opCpx (.imm imm8) ⟨2, false⟩ s

/-- E4 CPX zp, 3 cycles (R259). -/
def execCpxZp (zp8 : Byte) (s : State) : Result := opCpx (.mem (.zp zp8)) ⟨3, false⟩ s

/-- EC CPX abs, 4 cycles (R259). -/
def execCpxAbs (addr16 : Word) (s : State) : Result := opCpx (.mem (.abs addr16)) ⟨4, false⟩ s

/-- CPY (R260): the flags of Y compared with M; no register changes. -/
def opCpy (o : Operand) (c : Cost) (s : State) : Result :=
  withRead o c (fun m s => { s with p := compareFlags s.p s.y m }) s

/-- C0 CPY imm, 2 cycles (R260). -/
def execCpyImm (imm8 : Byte) (s : State) : Result := opCpy (.imm imm8) ⟨2, false⟩ s

/-- C4 CPY zp, 3 cycles (R260). -/
def execCpyZp (zp8 : Byte) (s : State) : Result := opCpy (.mem (.zp zp8)) ⟨3, false⟩ s

/-- CC CPY abs, 4 cycles (R260). -/
def execCpyAbs (addr16 : Word) (s : State) : Result := opCpy (.mem (.abs addr16)) ⟨4, false⟩ s

/-- INC (R261): `v <- (M + 1) & 0xFF; Store(v); SetNZ(v)`. -/
def opInc (l : Location) (c : Cost) (s : State) : Result := withModify l c (fun s m => incResult s.p m) s

/-- 1A INC acc, 2 cycles (R261). -/
def execIncAcc (s : State) : Result := opInc .acc ⟨2, false⟩ s

/-- E6 INC zp, 5 cycles (R261). -/
def execIncZp (zp8 : Byte) (s : State) : Result := opInc (.mem (.zp zp8)) ⟨5, false⟩ s

/-- EE INC abs, 6 cycles (R261). -/
def execIncAbs (addr16 : Word) (s : State) : Result := opInc (.mem (.abs addr16)) ⟨6, false⟩ s

/-- F6 INC zpx, 6 cycles (R261). -/
def execIncZpx (zp8 : Byte) (s : State) : Result := opInc (.mem (.zpx zp8)) ⟨6, false⟩ s

/-- FE INC abx, 7 cycles (R261). -/
def execIncAbx (addr16 : Word) (s : State) : Result := opInc (.mem (.abx addr16)) ⟨7, false⟩ s

/-- DEC (R262): `v <- (M - 1) & 0xFF; Store(v); SetNZ(v)`. -/
def opDec (l : Location) (c : Cost) (s : State) : Result := withModify l c (fun s m => decResult s.p m) s

/-- 3A DEC acc, 2 cycles (R262). -/
def execDecAcc (s : State) : Result := opDec .acc ⟨2, false⟩ s

/-- C6 DEC zp, 5 cycles (R262). -/
def execDecZp (zp8 : Byte) (s : State) : Result := opDec (.mem (.zp zp8)) ⟨5, false⟩ s

/-- CE DEC abs, 6 cycles (R262). -/
def execDecAbs (addr16 : Word) (s : State) : Result := opDec (.mem (.abs addr16)) ⟨6, false⟩ s

/-- D6 DEC zpx, 6 cycles (R262). -/
def execDecZpx (zp8 : Byte) (s : State) : Result := opDec (.mem (.zpx zp8)) ⟨6, false⟩ s

/-- DE DEC abx, 7 cycles (R262). -/
def execDecAbx (addr16 : Word) (s : State) : Result := opDec (.mem (.abx addr16)) ⟨7, false⟩ s

/-- E8 INX imp, 2 cycles (R263). `X <- (X + 1) & 0xFF; SetNZ(X)`. -/
def execInx (s : State) : Result :=
  withNone 2 (fun s => { s with x := s.x + 1, p := s.p.setNZ (s.x + 1) }) s

/-- C8 INY imp, 2 cycles (R264). `Y <- (Y + 1) & 0xFF; SetNZ(Y)`. -/
def execIny (s : State) : Result :=
  withNone 2 (fun s => { s with y := s.y + 1, p := s.p.setNZ (s.y + 1) }) s

/-- CA DEX imp, 2 cycles (R265). `X <- (X - 1) & 0xFF; SetNZ(X)`. -/
def execDex (s : State) : Result :=
  withNone 2 (fun s => { s with x := s.x - 1, p := s.p.setNZ (s.x - 1) }) s

/-- 88 DEY imp, 2 cycles (R266). `Y <- (Y - 1) & 0xFF; SetNZ(Y)`. -/
def execDey (s : State) : Result :=
  withNone 2 (fun s => { s with y := s.y - 1, p := s.p.setNZ (s.y - 1) }) s

end Sys2Proof.Machine
end

