-- ==== Sys2Proof/Machine/Control.lean ====
section
/-! DEFINITION. Jumps, calls, returns, branches and BRK (45 R340 to R377). -/

namespace Sys2Proof.Machine

/-- 4C JMP abs, 3 cycles (R340). `PC <- EA`. -/
def execJmpAbs (addr16 : Word) (s : State) : Result := withNone 3 (fun s => { s with pc := addr16 }) s

/-- 6C JMP ind, 6 cycles (R341). `PC <- Read(p) | (Read(p + 1) << 8)` with p = addr16. -/
def execJmpInd (addr16 : Word) (s : State) : Result := jumpThrough addr16 s

/-- 7C JMP iax, 6 cycles (R342). As JMP indirect with p = addr16 + X. -/
def execJmpIax (addr16 : Word) (s : State) : Result := jumpThrough (addr16 + zext16 s.x) s

/-- 20 JSR abs, 6 cycles (R343). Push PC - 1, the address of the instruction's last byte; `PC <- addr16`. -/
def execJsr (addr16 : Word) (s : State) : Result :=
  ((pushWord (s.pc - 1) s).bind fun _ s1 => .ok () ({ s1 with pc := addr16 }.tick 6)).outcome

/-- 60 RTS imp, 6 cycles (R344). Pull PC and add 1. -/
def execRts (s : State) : Result :=
  ((pullWord s).bind fun w s1 => .ok () ({ s1 with pc := w + 1 }.tick 6)).outcome

/-- 40 RTI imp, 6 cycles (R345). Pull P, then PC; `mode` is kept. -/
def execRti (s : State) : Result :=
  ((returnFromHandler s).bind fun _ s1 => .ok () (s1.tick 6)).outcome

/-- 10 BPL rel, 2 cycles (R346). Branch if N = 0. -/
def execBpl (rel8 : Byte) (s : State) : Result := .next (branchIf 2 (!s.p.n) rel8 s)

/-- 30 BMI rel, 2 cycles (R347). Branch if N = 1. -/
def execBmi (rel8 : Byte) (s : State) : Result := .next (branchIf 2 s.p.n rel8 s)

/-- 50 BVC rel, 2 cycles (R348). Branch if V = 0. -/
def execBvc (rel8 : Byte) (s : State) : Result := .next (branchIf 2 (!s.p.v) rel8 s)

/-- 70 BVS rel, 2 cycles (R349). Branch if V = 1. -/
def execBvs (rel8 : Byte) (s : State) : Result := .next (branchIf 2 s.p.v rel8 s)

/-- 90 BCC rel, 2 cycles (R350). Branch if C = 0. -/
def execBcc (rel8 : Byte) (s : State) : Result := .next (branchIf 2 (!s.p.c) rel8 s)

/-- B0 BCS rel, 2 cycles (R351). Branch if C = 1. -/
def execBcs (rel8 : Byte) (s : State) : Result := .next (branchIf 2 s.p.c rel8 s)

/-- D0 BNE rel, 2 cycles (R352). Branch if Z = 0. -/
def execBne (rel8 : Byte) (s : State) : Result := .next (branchIf 2 (!s.p.z) rel8 s)

/-- F0 BEQ rel, 2 cycles (R353). Branch if Z = 1. -/
def execBeq (rel8 : Byte) (s : State) : Result := .next (branchIf 2 s.p.z rel8 s)

/-- 80 BRA rel, 3 cycles (R354). Always taken; the taken cycle is in the base cost (R190). -/
def execBra (rel8 : Byte) (s : State) : Result :=
  .next ({ s with pc := branchTarget rel8 s }.tick (3 + pageChange s.pc (branchTarget rel8 s)))

/-- 0F BBR0 zpr, 5 cycles (R355). Branch if bit 0 is 0. -/
def execBbr0 (zp8 : Byte) (rel8 : Byte) (s : State) : Result := branchOnBit 0 false zp8 rel8 s

/-- 1F BBR1 zpr, 5 cycles (R356). Branch if bit 1 is 0. -/
def execBbr1 (zp8 : Byte) (rel8 : Byte) (s : State) : Result := branchOnBit 1 false zp8 rel8 s

/-- 2F BBR2 zpr, 5 cycles (R357). Branch if bit 2 is 0. -/
def execBbr2 (zp8 : Byte) (rel8 : Byte) (s : State) : Result := branchOnBit 2 false zp8 rel8 s

/-- 3F BBR3 zpr, 5 cycles (R358). Branch if bit 3 is 0. -/
def execBbr3 (zp8 : Byte) (rel8 : Byte) (s : State) : Result := branchOnBit 3 false zp8 rel8 s

/-- 4F BBR4 zpr, 5 cycles (R359). Branch if bit 4 is 0. -/
def execBbr4 (zp8 : Byte) (rel8 : Byte) (s : State) : Result := branchOnBit 4 false zp8 rel8 s

/-- 5F BBR5 zpr, 5 cycles (R360). Branch if bit 5 is 0. -/
def execBbr5 (zp8 : Byte) (rel8 : Byte) (s : State) : Result := branchOnBit 5 false zp8 rel8 s

/-- 6F BBR6 zpr, 5 cycles (R361). Branch if bit 6 is 0. -/
def execBbr6 (zp8 : Byte) (rel8 : Byte) (s : State) : Result := branchOnBit 6 false zp8 rel8 s

/-- 7F BBR7 zpr, 5 cycles (R362). Branch if bit 7 is 0. -/
def execBbr7 (zp8 : Byte) (rel8 : Byte) (s : State) : Result := branchOnBit 7 false zp8 rel8 s

/-- 8F BBS0 zpr, 5 cycles (R363). Branch if bit 0 is 1. -/
def execBbs0 (zp8 : Byte) (rel8 : Byte) (s : State) : Result := branchOnBit 0 true zp8 rel8 s

/-- 9F BBS1 zpr, 5 cycles (R364). Branch if bit 1 is 1. -/
def execBbs1 (zp8 : Byte) (rel8 : Byte) (s : State) : Result := branchOnBit 1 true zp8 rel8 s

/-- AF BBS2 zpr, 5 cycles (R365). Branch if bit 2 is 1. -/
def execBbs2 (zp8 : Byte) (rel8 : Byte) (s : State) : Result := branchOnBit 2 true zp8 rel8 s

/-- BF BBS3 zpr, 5 cycles (R366). Branch if bit 3 is 1. -/
def execBbs3 (zp8 : Byte) (rel8 : Byte) (s : State) : Result := branchOnBit 3 true zp8 rel8 s

/-- CF BBS4 zpr, 5 cycles (R367). Branch if bit 4 is 1. -/
def execBbs4 (zp8 : Byte) (rel8 : Byte) (s : State) : Result := branchOnBit 4 true zp8 rel8 s

/-- DF BBS5 zpr, 5 cycles (R368). Branch if bit 5 is 1. -/
def execBbs5 (zp8 : Byte) (rel8 : Byte) (s : State) : Result := branchOnBit 5 true zp8 rel8 s

/-- EF BBS6 zpr, 5 cycles (R369). Branch if bit 6 is 1. -/
def execBbs6 (zp8 : Byte) (rel8 : Byte) (s : State) : Result := branchOnBit 6 true zp8 rel8 s

/-- FF BBS7 zpr, 5 cycles (R370). Branch if bit 7 is 1. -/
def execBbs7 (zp8 : Byte) (rel8 : Byte) (s : State) : Result := branchOnBit 7 true zp8 rel8 s

/-- 00 BRK imp, 7 cycles (R376). An extra PC increment, then the shared entry with B set, through the IRQ vector. The skipped byte is not read. -/
def execBrk (s : State) : Result :=
  ((enterHandler 0xFFFE true { s with pc := s.pc + 1 }).bind fun _ s1 => .ok () (s1.tick 7)).outcome

end Sys2Proof.Machine
end

