-- ==== Sys2Proof/Machine/LoadStore.lean ====
section
/-! DEFINITION. Loads, stores and register transfers (41 R200 to R213). -/

namespace Sys2Proof.Machine

/-- LDA (R200): `A <- M; SetNZ(A)`. -/
def opLda (o : Operand) (c : Cost) (s : State) : Result :=
  withRead o c (fun m s => { s with a := m, p := s.p.setNZ m }) s

/-- A1 LDA izx, 6 cycles (R200). -/
def execLdaIzx (zp8 : Byte) (s : State) : Result := opLda (.mem (.izx zp8)) ⟨6, false⟩ s

/-- A5 LDA zp, 3 cycles (R200). -/
def execLdaZp (zp8 : Byte) (s : State) : Result := opLda (.mem (.zp zp8)) ⟨3, false⟩ s

/-- A9 LDA imm, 2 cycles (R200). -/
def execLdaImm (imm8 : Byte) (s : State) : Result := opLda (.imm imm8) ⟨2, false⟩ s

/-- AD LDA abs, 4 cycles (R200). -/
def execLdaAbs (addr16 : Word) (s : State) : Result := opLda (.mem (.abs addr16)) ⟨4, false⟩ s

/-- B1 LDA izy, 5+p cycles (R200). -/
def execLdaIzy (zp8 : Byte) (s : State) : Result := opLda (.mem (.izy zp8)) ⟨5, true⟩ s

/-- B2 LDA zpi, 5 cycles (R200). -/
def execLdaZpi (zp8 : Byte) (s : State) : Result := opLda (.mem (.zpi zp8)) ⟨5, false⟩ s

/-- B5 LDA zpx, 4 cycles (R200). -/
def execLdaZpx (zp8 : Byte) (s : State) : Result := opLda (.mem (.zpx zp8)) ⟨4, false⟩ s

/-- B9 LDA aby, 4+p cycles (R200). -/
def execLdaAby (addr16 : Word) (s : State) : Result := opLda (.mem (.aby addr16)) ⟨4, true⟩ s

/-- BD LDA abx, 4+p cycles (R200). -/
def execLdaAbx (addr16 : Word) (s : State) : Result := opLda (.mem (.abx addr16)) ⟨4, true⟩ s

/-- LDX (R201): `X <- M; SetNZ(X)`. -/
def opLdx (o : Operand) (c : Cost) (s : State) : Result :=
  withRead o c (fun m s => { s with x := m, p := s.p.setNZ m }) s

/-- A2 LDX imm, 2 cycles (R201). -/
def execLdxImm (imm8 : Byte) (s : State) : Result := opLdx (.imm imm8) ⟨2, false⟩ s

/-- A6 LDX zp, 3 cycles (R201). -/
def execLdxZp (zp8 : Byte) (s : State) : Result := opLdx (.mem (.zp zp8)) ⟨3, false⟩ s

/-- AE LDX abs, 4 cycles (R201). -/
def execLdxAbs (addr16 : Word) (s : State) : Result := opLdx (.mem (.abs addr16)) ⟨4, false⟩ s

/-- B6 LDX zpy, 4 cycles (R201). -/
def execLdxZpy (zp8 : Byte) (s : State) : Result := opLdx (.mem (.zpy zp8)) ⟨4, false⟩ s

/-- BE LDX aby, 4+p cycles (R201). -/
def execLdxAby (addr16 : Word) (s : State) : Result := opLdx (.mem (.aby addr16)) ⟨4, true⟩ s

/-- LDY (R202): `Y <- M; SetNZ(Y)`. -/
def opLdy (o : Operand) (c : Cost) (s : State) : Result :=
  withRead o c (fun m s => { s with y := m, p := s.p.setNZ m }) s

/-- A0 LDY imm, 2 cycles (R202). -/
def execLdyImm (imm8 : Byte) (s : State) : Result := opLdy (.imm imm8) ⟨2, false⟩ s

/-- A4 LDY zp, 3 cycles (R202). -/
def execLdyZp (zp8 : Byte) (s : State) : Result := opLdy (.mem (.zp zp8)) ⟨3, false⟩ s

/-- AC LDY abs, 4 cycles (R202). -/
def execLdyAbs (addr16 : Word) (s : State) : Result := opLdy (.mem (.abs addr16)) ⟨4, false⟩ s

/-- B4 LDY zpx, 4 cycles (R202). -/
def execLdyZpx (zp8 : Byte) (s : State) : Result := opLdy (.mem (.zpx zp8)) ⟨4, false⟩ s

/-- BC LDY abx, 4+p cycles (R202). -/
def execLdyAbx (addr16 : Word) (s : State) : Result := opLdy (.mem (.abx addr16)) ⟨4, true⟩ s

/-- STA (R203): `Store(A)`, no flag. -/
def opSta (m : MemMode) (c : Cost) (s : State) : Result := withWrite m c (fun s => s.a) s

/-- 81 STA izx, 6 cycles (R203). -/
def execStaIzx (zp8 : Byte) (s : State) : Result := opSta (.izx zp8) ⟨6, false⟩ s

/-- 85 STA zp, 3 cycles (R203). -/
def execStaZp (zp8 : Byte) (s : State) : Result := opSta (.zp zp8) ⟨3, false⟩ s

/-- 8D STA abs, 4 cycles (R203). -/
def execStaAbs (addr16 : Word) (s : State) : Result := opSta (.abs addr16) ⟨4, false⟩ s

/-- 91 STA izy, 6 cycles (R203). -/
def execStaIzy (zp8 : Byte) (s : State) : Result := opSta (.izy zp8) ⟨6, false⟩ s

/-- 92 STA zpi, 5 cycles (R203). -/
def execStaZpi (zp8 : Byte) (s : State) : Result := opSta (.zpi zp8) ⟨5, false⟩ s

/-- 95 STA zpx, 4 cycles (R203). -/
def execStaZpx (zp8 : Byte) (s : State) : Result := opSta (.zpx zp8) ⟨4, false⟩ s

/-- 99 STA aby, 5 cycles (R203). -/
def execStaAby (addr16 : Word) (s : State) : Result := opSta (.aby addr16) ⟨5, false⟩ s

/-- 9D STA abx, 5 cycles (R203). -/
def execStaAbx (addr16 : Word) (s : State) : Result := opSta (.abx addr16) ⟨5, false⟩ s

/-- STX (R204): `Store(X)`, no flag. -/
def opStx (m : MemMode) (c : Cost) (s : State) : Result := withWrite m c (fun s => s.x) s

/-- 86 STX zp, 3 cycles (R204). -/
def execStxZp (zp8 : Byte) (s : State) : Result := opStx (.zp zp8) ⟨3, false⟩ s

/-- 8E STX abs, 4 cycles (R204). -/
def execStxAbs (addr16 : Word) (s : State) : Result := opStx (.abs addr16) ⟨4, false⟩ s

/-- 96 STX zpy, 4 cycles (R204). -/
def execStxZpy (zp8 : Byte) (s : State) : Result := opStx (.zpy zp8) ⟨4, false⟩ s

/-- STY (R205): `Store(Y)`, no flag. -/
def opSty (m : MemMode) (c : Cost) (s : State) : Result := withWrite m c (fun s => s.y) s

/-- 84 STY zp, 3 cycles (R205). -/
def execStyZp (zp8 : Byte) (s : State) : Result := opSty (.zp zp8) ⟨3, false⟩ s

/-- 8C STY abs, 4 cycles (R205). -/
def execStyAbs (addr16 : Word) (s : State) : Result := opSty (.abs addr16) ⟨4, false⟩ s

/-- 94 STY zpx, 4 cycles (R205). -/
def execStyZpx (zp8 : Byte) (s : State) : Result := opSty (.zpx zp8) ⟨4, false⟩ s

/-- STZ (R206): `Store(0x00)`, no flag. -/
def opStz (m : MemMode) (c : Cost) (s : State) : Result := withWrite m c (fun _ => 0x00) s

/-- 64 STZ zp, 3 cycles (R206). -/
def execStzZp (zp8 : Byte) (s : State) : Result := opStz (.zp zp8) ⟨3, false⟩ s

/-- 74 STZ zpx, 4 cycles (R206). -/
def execStzZpx (zp8 : Byte) (s : State) : Result := opStz (.zpx zp8) ⟨4, false⟩ s

/-- 9C STZ abs, 4 cycles (R206). -/
def execStzAbs (addr16 : Word) (s : State) : Result := opStz (.abs addr16) ⟨4, false⟩ s

/-- 9E STZ abx, 5 cycles (R206). -/
def execStzAbx (addr16 : Word) (s : State) : Result := opStz (.abx addr16) ⟨5, false⟩ s

/-- AA TAX imp, 2 cycles (R207). `X <- A; SetNZ(X)`. -/
def execTax (s : State) : Result :=
  withNone 2 (fun s => { s with x := s.a, p := s.p.setNZ s.a }) s

/-- A8 TAY imp, 2 cycles (R208). `Y <- A; SetNZ(Y)`. -/
def execTay (s : State) : Result :=
  withNone 2 (fun s => { s with y := s.a, p := s.p.setNZ s.a }) s

/-- 8A TXA imp, 2 cycles (R209). `A <- X; SetNZ(A)`. -/
def execTxa (s : State) : Result :=
  withNone 2 (fun s => { s with a := s.x, p := s.p.setNZ s.x }) s

/-- 98 TYA imp, 2 cycles (R210). `A <- Y; SetNZ(A)`. -/
def execTya (s : State) : Result :=
  withNone 2 (fun s => { s with a := s.y, p := s.p.setNZ s.y }) s

/-- BA TSX imp, 2 cycles (R211). `X <- SP; SetNZ(X)`. -/
def execTsx (s : State) : Result :=
  withNone 2 (fun s => { s with x := s.sp, p := s.p.setNZ s.sp }) s

/-- 9A TXS imp, 2 cycles (R212). `SP <- X`, no flag. -/
def execTxs (s : State) : Result := withNone 2 (fun s => { s with sp := s.x }) s

end Sys2Proof.Machine
end

