-- ==== Sys2Proof/Machine/Logic.lean ====
section
/-! DEFINITION. Logic, shifts, rotates and bit instructions (44 R280 to R306). -/

namespace Sys2Proof.Machine

/-- AND (R280): `A <- A & M; SetNZ(A)`. -/
def opAnd (o : Operand) (c : Cost) (s : State) : Result :=
  withRead o c (fun m s => { s with a := s.a &&& m, p := s.p.setNZ (s.a &&& m) }) s

/-- 21 AND izx, 6 cycles (R280). -/
def execAndIzx (zp8 : Byte) (s : State) : Result := opAnd (.mem (.izx zp8)) ⟨6, false⟩ s

/-- 25 AND zp, 3 cycles (R280). -/
def execAndZp (zp8 : Byte) (s : State) : Result := opAnd (.mem (.zp zp8)) ⟨3, false⟩ s

/-- 29 AND imm, 2 cycles (R280). -/
def execAndImm (imm8 : Byte) (s : State) : Result := opAnd (.imm imm8) ⟨2, false⟩ s

/-- 2D AND abs, 4 cycles (R280). -/
def execAndAbs (addr16 : Word) (s : State) : Result := opAnd (.mem (.abs addr16)) ⟨4, false⟩ s

/-- 31 AND izy, 5+p cycles (R280). -/
def execAndIzy (zp8 : Byte) (s : State) : Result := opAnd (.mem (.izy zp8)) ⟨5, true⟩ s

/-- 32 AND zpi, 5 cycles (R280). -/
def execAndZpi (zp8 : Byte) (s : State) : Result := opAnd (.mem (.zpi zp8)) ⟨5, false⟩ s

/-- 35 AND zpx, 4 cycles (R280). -/
def execAndZpx (zp8 : Byte) (s : State) : Result := opAnd (.mem (.zpx zp8)) ⟨4, false⟩ s

/-- 39 AND aby, 4+p cycles (R280). -/
def execAndAby (addr16 : Word) (s : State) : Result := opAnd (.mem (.aby addr16)) ⟨4, true⟩ s

/-- 3D AND abx, 4+p cycles (R280). -/
def execAndAbx (addr16 : Word) (s : State) : Result := opAnd (.mem (.abx addr16)) ⟨4, true⟩ s

/-- ORA (R281): `A <- A | M; SetNZ(A)`. -/
def opOra (o : Operand) (c : Cost) (s : State) : Result :=
  withRead o c (fun m s => { s with a := s.a ||| m, p := s.p.setNZ (s.a ||| m) }) s

/-- 01 ORA izx, 6 cycles (R281). -/
def execOraIzx (zp8 : Byte) (s : State) : Result := opOra (.mem (.izx zp8)) ⟨6, false⟩ s

/-- 05 ORA zp, 3 cycles (R281). -/
def execOraZp (zp8 : Byte) (s : State) : Result := opOra (.mem (.zp zp8)) ⟨3, false⟩ s

/-- 09 ORA imm, 2 cycles (R281). -/
def execOraImm (imm8 : Byte) (s : State) : Result := opOra (.imm imm8) ⟨2, false⟩ s

/-- 0D ORA abs, 4 cycles (R281). -/
def execOraAbs (addr16 : Word) (s : State) : Result := opOra (.mem (.abs addr16)) ⟨4, false⟩ s

/-- 11 ORA izy, 5+p cycles (R281). -/
def execOraIzy (zp8 : Byte) (s : State) : Result := opOra (.mem (.izy zp8)) ⟨5, true⟩ s

/-- 12 ORA zpi, 5 cycles (R281). -/
def execOraZpi (zp8 : Byte) (s : State) : Result := opOra (.mem (.zpi zp8)) ⟨5, false⟩ s

/-- 15 ORA zpx, 4 cycles (R281). -/
def execOraZpx (zp8 : Byte) (s : State) : Result := opOra (.mem (.zpx zp8)) ⟨4, false⟩ s

/-- 19 ORA aby, 4+p cycles (R281). -/
def execOraAby (addr16 : Word) (s : State) : Result := opOra (.mem (.aby addr16)) ⟨4, true⟩ s

/-- 1D ORA abx, 4+p cycles (R281). -/
def execOraAbx (addr16 : Word) (s : State) : Result := opOra (.mem (.abx addr16)) ⟨4, true⟩ s

/-- EOR (R282): `A <- A ^ M; SetNZ(A)`. -/
def opEor (o : Operand) (c : Cost) (s : State) : Result :=
  withRead o c (fun m s => { s with a := s.a ^^^ m, p := s.p.setNZ (s.a ^^^ m) }) s

/-- 41 EOR izx, 6 cycles (R282). -/
def execEorIzx (zp8 : Byte) (s : State) : Result := opEor (.mem (.izx zp8)) ⟨6, false⟩ s

/-- 45 EOR zp, 3 cycles (R282). -/
def execEorZp (zp8 : Byte) (s : State) : Result := opEor (.mem (.zp zp8)) ⟨3, false⟩ s

/-- 49 EOR imm, 2 cycles (R282). -/
def execEorImm (imm8 : Byte) (s : State) : Result := opEor (.imm imm8) ⟨2, false⟩ s

/-- 4D EOR abs, 4 cycles (R282). -/
def execEorAbs (addr16 : Word) (s : State) : Result := opEor (.mem (.abs addr16)) ⟨4, false⟩ s

/-- 51 EOR izy, 5+p cycles (R282). -/
def execEorIzy (zp8 : Byte) (s : State) : Result := opEor (.mem (.izy zp8)) ⟨5, true⟩ s

/-- 52 EOR zpi, 5 cycles (R282). -/
def execEorZpi (zp8 : Byte) (s : State) : Result := opEor (.mem (.zpi zp8)) ⟨5, false⟩ s

/-- 55 EOR zpx, 4 cycles (R282). -/
def execEorZpx (zp8 : Byte) (s : State) : Result := opEor (.mem (.zpx zp8)) ⟨4, false⟩ s

/-- 59 EOR aby, 4+p cycles (R282). -/
def execEorAby (addr16 : Word) (s : State) : Result := opEor (.mem (.aby addr16)) ⟨4, true⟩ s

/-- 5D EOR abx, 4+p cycles (R282). -/
def execEorAbx (addr16 : Word) (s : State) : Result := opEor (.mem (.abx addr16)) ⟨4, true⟩ s

/-- BIT (R283): Z of A and M; in the memory modes also N and V from M; the immediate form changes Z only. -/
def opBit (o : Operand) (c : Cost) (s : State) : Result :=
  match o with
  | .imm _ => withRead o c (fun m s => { s with p := testFlags s.p s.a m }) s
  | .mem _ => withRead o c (fun m s => { s with p := bitFlags s.p s.a m }) s

/-- 24 BIT zp, 3 cycles (R283). -/
def execBitZp (zp8 : Byte) (s : State) : Result := opBit (.mem (.zp zp8)) ⟨3, false⟩ s

/-- 2C BIT abs, 4 cycles (R283). -/
def execBitAbs (addr16 : Word) (s : State) : Result := opBit (.mem (.abs addr16)) ⟨4, false⟩ s

/-- 34 BIT zpx, 4 cycles (R283). -/
def execBitZpx (zp8 : Byte) (s : State) : Result := opBit (.mem (.zpx zp8)) ⟨4, false⟩ s

/-- 3C BIT abx, 4+p cycles (R283). -/
def execBitAbx (addr16 : Word) (s : State) : Result := opBit (.mem (.abx addr16)) ⟨4, true⟩ s

/-- 89 BIT imm, 2 cycles (R283). -/
def execBitImm (imm8 : Byte) (s : State) : Result := opBit (.imm imm8) ⟨2, false⟩ s

/-- TSB (R284): Z of A and M, then `Store(m | A)`. -/
def opTsb (l : Location) (c : Cost) (s : State) : Result := withModify l c (fun s m => tsbResult s.p s.a m) s

/-- 04 TSB zp, 5 cycles (R284). -/
def execTsbZp (zp8 : Byte) (s : State) : Result := opTsb (.mem (.zp zp8)) ⟨5, false⟩ s

/-- 0C TSB abs, 6 cycles (R284). -/
def execTsbAbs (addr16 : Word) (s : State) : Result := opTsb (.mem (.abs addr16)) ⟨6, false⟩ s

/-- TRB (R285): Z of A and M, then `Store(m & ~A)`. -/
def opTrb (l : Location) (c : Cost) (s : State) : Result := withModify l c (fun s m => trbResult s.p s.a m) s

/-- 14 TRB zp, 5 cycles (R285). -/
def execTrbZp (zp8 : Byte) (s : State) : Result := opTrb (.mem (.zp zp8)) ⟨5, false⟩ s

/-- 1C TRB abs, 6 cycles (R285). -/
def execTrbAbs (addr16 : Word) (s : State) : Result := opTrb (.mem (.abs addr16)) ⟨6, false⟩ s

/-- ASL (R286): the result and the flags N, Z, C as `aslResult` gives them. -/
def opAsl (l : Location) (c : Cost) (s : State) : Result := withModify l c (fun s m => aslResult s.p m) s

/-- 06 ASL zp, 5 cycles (R286). -/
def execAslZp (zp8 : Byte) (s : State) : Result := opAsl (.mem (.zp zp8)) ⟨5, false⟩ s

/-- 0A ASL acc, 2 cycles (R286). -/
def execAslAcc (s : State) : Result := opAsl .acc ⟨2, false⟩ s

/-- 0E ASL abs, 6 cycles (R286). -/
def execAslAbs (addr16 : Word) (s : State) : Result := opAsl (.mem (.abs addr16)) ⟨6, false⟩ s

/-- 16 ASL zpx, 6 cycles (R286). -/
def execAslZpx (zp8 : Byte) (s : State) : Result := opAsl (.mem (.zpx zp8)) ⟨6, false⟩ s

/-- 1E ASL abx, 6+p cycles (R286). -/
def execAslAbx (addr16 : Word) (s : State) : Result := opAsl (.mem (.abx addr16)) ⟨6, true⟩ s

/-- LSR (R287): the result and the flags N, Z, C as `lsrResult` gives them. -/
def opLsr (l : Location) (c : Cost) (s : State) : Result := withModify l c (fun s m => lsrResult s.p m) s

/-- 46 LSR zp, 5 cycles (R287). -/
def execLsrZp (zp8 : Byte) (s : State) : Result := opLsr (.mem (.zp zp8)) ⟨5, false⟩ s

/-- 4A LSR acc, 2 cycles (R287). -/
def execLsrAcc (s : State) : Result := opLsr .acc ⟨2, false⟩ s

/-- 4E LSR abs, 6 cycles (R287). -/
def execLsrAbs (addr16 : Word) (s : State) : Result := opLsr (.mem (.abs addr16)) ⟨6, false⟩ s

/-- 56 LSR zpx, 6 cycles (R287). -/
def execLsrZpx (zp8 : Byte) (s : State) : Result := opLsr (.mem (.zpx zp8)) ⟨6, false⟩ s

/-- 5E LSR abx, 6+p cycles (R287). -/
def execLsrAbx (addr16 : Word) (s : State) : Result := opLsr (.mem (.abx addr16)) ⟨6, true⟩ s

/-- ROL (R288): the result and the flags N, Z, C as `rolResult` gives them. -/
def opRol (l : Location) (c : Cost) (s : State) : Result := withModify l c (fun s m => rolResult s.p m) s

/-- 26 ROL zp, 5 cycles (R288). -/
def execRolZp (zp8 : Byte) (s : State) : Result := opRol (.mem (.zp zp8)) ⟨5, false⟩ s

/-- 2A ROL acc, 2 cycles (R288). -/
def execRolAcc (s : State) : Result := opRol .acc ⟨2, false⟩ s

/-- 2E ROL abs, 6 cycles (R288). -/
def execRolAbs (addr16 : Word) (s : State) : Result := opRol (.mem (.abs addr16)) ⟨6, false⟩ s

/-- 36 ROL zpx, 6 cycles (R288). -/
def execRolZpx (zp8 : Byte) (s : State) : Result := opRol (.mem (.zpx zp8)) ⟨6, false⟩ s

/-- 3E ROL abx, 6+p cycles (R288). -/
def execRolAbx (addr16 : Word) (s : State) : Result := opRol (.mem (.abx addr16)) ⟨6, true⟩ s

/-- ROR (R289): the result and the flags N, Z, C as `rorResult` gives them. -/
def opRor (l : Location) (c : Cost) (s : State) : Result := withModify l c (fun s m => rorResult s.p m) s

/-- 66 ROR zp, 5 cycles (R289). -/
def execRorZp (zp8 : Byte) (s : State) : Result := opRor (.mem (.zp zp8)) ⟨5, false⟩ s

/-- 6A ROR acc, 2 cycles (R289). -/
def execRorAcc (s : State) : Result := opRor .acc ⟨2, false⟩ s

/-- 6E ROR abs, 6 cycles (R289). -/
def execRorAbs (addr16 : Word) (s : State) : Result := opRor (.mem (.abs addr16)) ⟨6, false⟩ s

/-- 76 ROR zpx, 6 cycles (R289). -/
def execRorZpx (zp8 : Byte) (s : State) : Result := opRor (.mem (.zpx zp8)) ⟨6, false⟩ s

/-- 7E ROR abx, 6+p cycles (R289). -/
def execRorAbx (addr16 : Word) (s : State) : Result := opRor (.mem (.abx addr16)) ⟨6, true⟩ s

/-- 07 RMB0 zp, 5 cycles (R291). Clearing bit 0. -/
def execRmb0 (zp8 : Byte) (s : State) : Result := resetBit 0 zp8 s

/-- 17 RMB1 zp, 5 cycles (R292). Clearing bit 1. -/
def execRmb1 (zp8 : Byte) (s : State) : Result := resetBit 1 zp8 s

/-- 27 RMB2 zp, 5 cycles (R293). Clearing bit 2. -/
def execRmb2 (zp8 : Byte) (s : State) : Result := resetBit 2 zp8 s

/-- 37 RMB3 zp, 5 cycles (R294). Clearing bit 3. -/
def execRmb3 (zp8 : Byte) (s : State) : Result := resetBit 3 zp8 s

/-- 47 RMB4 zp, 5 cycles (R295). Clearing bit 4. -/
def execRmb4 (zp8 : Byte) (s : State) : Result := resetBit 4 zp8 s

/-- 57 RMB5 zp, 5 cycles (R296). Clearing bit 5. -/
def execRmb5 (zp8 : Byte) (s : State) : Result := resetBit 5 zp8 s

/-- 67 RMB6 zp, 5 cycles (R297). Clearing bit 6. -/
def execRmb6 (zp8 : Byte) (s : State) : Result := resetBit 6 zp8 s

/-- 77 RMB7 zp, 5 cycles (R298). Clearing bit 7. -/
def execRmb7 (zp8 : Byte) (s : State) : Result := resetBit 7 zp8 s

/-- 87 SMB0 zp, 5 cycles (R299). Setting bit 0. -/
def execSmb0 (zp8 : Byte) (s : State) : Result := setBit 0 zp8 s

/-- 97 SMB1 zp, 5 cycles (R300). Setting bit 1. -/
def execSmb1 (zp8 : Byte) (s : State) : Result := setBit 1 zp8 s

/-- A7 SMB2 zp, 5 cycles (R301). Setting bit 2. -/
def execSmb2 (zp8 : Byte) (s : State) : Result := setBit 2 zp8 s

/-- B7 SMB3 zp, 5 cycles (R302). Setting bit 3. -/
def execSmb3 (zp8 : Byte) (s : State) : Result := setBit 3 zp8 s

/-- C7 SMB4 zp, 5 cycles (R303). Setting bit 4. -/
def execSmb4 (zp8 : Byte) (s : State) : Result := setBit 4 zp8 s

/-- D7 SMB5 zp, 5 cycles (R304). Setting bit 5. -/
def execSmb5 (zp8 : Byte) (s : State) : Result := setBit 5 zp8 s

/-- E7 SMB6 zp, 5 cycles (R305). Setting bit 6. -/
def execSmb6 (zp8 : Byte) (s : State) : Result := setBit 6 zp8 s

/-- F7 SMB7 zp, 5 cycles (R306). Setting bit 7. -/
def execSmb7 (zp8 : Byte) (s : State) : Result := setBit 7 zp8 s

end Sys2Proof.Machine
end

