-- ==== Sys2Proof/Machine/Stack.lean ====
section
/-! DEFINITION. The stack instructions (42 R232 to R239). -/

namespace Sys2Proof.Machine

/-- 08 PHP imp, 3 cycles (R232). `Push(P | 0x30)`: U and B set in the pushed byte, the stored B kept. -/
def execPhp (s : State) : Result := withPush (fun s => s.p.pack ||| 0x30) s

/-- 48 PHA imp, 3 cycles (R233). `Push(A)`. -/
def execPha (s : State) : Result := withPush (fun s => s.a) s

/-- DA PHX imp, 3 cycles (R234). `Push(X)`. -/
def execPhx (s : State) : Result := withPush (fun s => s.x) s

/-- 5A PHY imp, 3 cycles (R235). `Push(Y)`. -/
def execPhy (s : State) : Result := withPush (fun s => s.y) s

/-- 68 PLA imp, 4 cycles (R236). `A <- Pull(); SetNZ(A)`. -/
def execPla (s : State) : Result := withPull (fun v s => { s with a := v, p := s.p.setNZ v }) s

/-- FA PLX imp, 4 cycles (R238). `X <- Pull(); SetNZ(X)`. -/
def execPlx (s : State) : Result := withPull (fun v s => { s with x := v, p := s.p.setNZ v }) s

/-- 7A PLY imp, 4 cycles (R239). `Y <- Pull(); SetNZ(Y)`. -/
def execPly (s : State) : Result := withPull (fun v s => { s with y := v, p := s.p.setNZ v }) s

/-- 28 PLP imp, 4 cycles (R237). `P <- Pull() | 0x20`. -/
def execPlp (s : State) : Result := withPull (fun v s => { s with p := Status.unpack v }) s

end Sys2Proof.Machine
end

