-- ==== Sys2Proof/Machine/System.lean ====
section
/-! DEFINITION. Flag instructions, no-operations, WAI and STP (46 R400 to R415). -/

namespace Sys2Proof.Machine

/-- 18 CLC imp, 2 cycles (R400). `P.C <- 0`. -/
def execClc (s : State) : Result := withNone 2 (fun s => { s with p := { s.p with c := false } }) s

/-- 38 SEC imp, 2 cycles (R401). `P.C <- 1`. -/
def execSec (s : State) : Result := withNone 2 (fun s => { s with p := { s.p with c := true } }) s

/-- 58 CLI imp, 2 cycles (R402). `P.I <- 0`. -/
def execCli (s : State) : Result := withNone 2 (fun s => { s with p := { s.p with i := false } }) s

/-- 78 SEI imp, 2 cycles (R403). `P.I <- 1`. -/
def execSei (s : State) : Result := withNone 2 (fun s => { s with p := { s.p with i := true } }) s

/-- D8 CLD imp, 2 cycles (R404). `P.D <- 0`. -/
def execCld (s : State) : Result := withNone 2 (fun s => { s with p := { s.p with d := false } }) s

/-- F8 SED imp, 2 cycles (R405). `P.D <- 1`. -/
def execSed (s : State) : Result := withNone 2 (fun s => { s with p := { s.p with d := true } }) s

/-- B8 CLV imp, 2 cycles (R406). `P.V <- 0`. -/
def execClv (s : State) : Result := withNone 2 (fun s => { s with p := { s.p with v := false } }) s

/-- An undefined opcode (R407 to R412): its operand bytes were fetched and are ignored, there is no other access, and only the cost is charged. -/
def undefinedNop (cost : Nat) (s : State) : Result := withNone cost (fun s => s) s

/-- 02 NOP u2, 2 cycles (R408). -/
def execNop02 (_ignored8 : Byte) (s : State) : Result := undefinedNop 2 s

/-- 03 NOP u1, 1 cycles (R407). -/
def execNop03 (s : State) : Result := undefinedNop 1 s

/-- 0B NOP u1, 1 cycles (R407). -/
def execNop0B (s : State) : Result := undefinedNop 1 s

/-- 13 NOP u1, 1 cycles (R407). -/
def execNop13 (s : State) : Result := undefinedNop 1 s

/-- 1B NOP u1, 1 cycles (R407). -/
def execNop1B (s : State) : Result := undefinedNop 1 s

/-- 22 NOP u2, 2 cycles (R408). -/
def execNop22 (_ignored8 : Byte) (s : State) : Result := undefinedNop 2 s

/-- 23 NOP u1, 1 cycles (R407). -/
def execNop23 (s : State) : Result := undefinedNop 1 s

/-- 2B NOP u1, 1 cycles (R407). -/
def execNop2B (s : State) : Result := undefinedNop 1 s

/-- 33 NOP u1, 1 cycles (R407). -/
def execNop33 (s : State) : Result := undefinedNop 1 s

/-- 3B NOP u1, 1 cycles (R407). -/
def execNop3B (s : State) : Result := undefinedNop 1 s

/-- 42 NOP u2, 2 cycles (R408). -/
def execNop42 (_ignored8 : Byte) (s : State) : Result := undefinedNop 2 s

/-- 43 NOP u1, 1 cycles (R407). -/
def execNop43 (s : State) : Result := undefinedNop 1 s

/-- 44 NOP u2, 3 cycles (R409). -/
def execNop44 (_ignored8 : Byte) (s : State) : Result := undefinedNop 3 s

/-- 4B NOP u1, 1 cycles (R407). -/
def execNop4B (s : State) : Result := undefinedNop 1 s

/-- 53 NOP u1, 1 cycles (R407). -/
def execNop53 (s : State) : Result := undefinedNop 1 s

/-- 54 NOP u2, 4 cycles (R410). -/
def execNop54 (_ignored8 : Byte) (s : State) : Result := undefinedNop 4 s

/-- 5B NOP u1, 1 cycles (R407). -/
def execNop5B (s : State) : Result := undefinedNop 1 s

/-- 5C NOP u3, 8 cycles (R411). -/
def execNop5C (_ignored16 : Word) (s : State) : Result := undefinedNop 8 s

/-- 62 NOP u2, 2 cycles (R408). -/
def execNop62 (_ignored8 : Byte) (s : State) : Result := undefinedNop 2 s

/-- 63 NOP u1, 1 cycles (R407). -/
def execNop63 (s : State) : Result := undefinedNop 1 s

/-- 6B NOP u1, 1 cycles (R407). -/
def execNop6B (s : State) : Result := undefinedNop 1 s

/-- 73 NOP u1, 1 cycles (R407). -/
def execNop73 (s : State) : Result := undefinedNop 1 s

/-- 7B NOP u1, 1 cycles (R407). -/
def execNop7B (s : State) : Result := undefinedNop 1 s

/-- 82 NOP u2, 2 cycles (R408). -/
def execNop82 (_ignored8 : Byte) (s : State) : Result := undefinedNop 2 s

/-- 83 NOP u1, 1 cycles (R407). -/
def execNop83 (s : State) : Result := undefinedNop 1 s

/-- 8B NOP u1, 1 cycles (R407). -/
def execNop8B (s : State) : Result := undefinedNop 1 s

/-- 93 NOP u1, 1 cycles (R407). -/
def execNop93 (s : State) : Result := undefinedNop 1 s

/-- 9B NOP u1, 1 cycles (R407). -/
def execNop9B (s : State) : Result := undefinedNop 1 s

/-- A3 NOP u1, 1 cycles (R407). -/
def execNopA3 (s : State) : Result := undefinedNop 1 s

/-- AB NOP u1, 1 cycles (R407). -/
def execNopAB (s : State) : Result := undefinedNop 1 s

/-- B3 NOP u1, 1 cycles (R407). -/
def execNopB3 (s : State) : Result := undefinedNop 1 s

/-- BB NOP u1, 1 cycles (R407). -/
def execNopBB (s : State) : Result := undefinedNop 1 s

/-- C2 NOP u2, 2 cycles (R408). -/
def execNopC2 (_ignored8 : Byte) (s : State) : Result := undefinedNop 2 s

/-- C3 NOP u1, 1 cycles (R407). -/
def execNopC3 (s : State) : Result := undefinedNop 1 s

/-- D3 NOP u1, 1 cycles (R407). -/
def execNopD3 (s : State) : Result := undefinedNop 1 s

/-- D4 NOP u2, 4 cycles (R410). -/
def execNopD4 (_ignored8 : Byte) (s : State) : Result := undefinedNop 4 s

/-- DC NOP u3, 4 cycles (R412). -/
def execNopDC (_ignored16 : Word) (s : State) : Result := undefinedNop 4 s

/-- E2 NOP u2, 2 cycles (R408). -/
def execNopE2 (_ignored8 : Byte) (s : State) : Result := undefinedNop 2 s

/-- E3 NOP u1, 1 cycles (R407). -/
def execNopE3 (s : State) : Result := undefinedNop 1 s

/-- EB NOP u1, 1 cycles (R407). -/
def execNopEB (s : State) : Result := undefinedNop 1 s

/-- F3 NOP u1, 1 cycles (R407). -/
def execNopF3 (s : State) : Result := undefinedNop 1 s

/-- F4 NOP u2, 4 cycles (R410). -/
def execNopF4 (_ignored8 : Byte) (s : State) : Result := undefinedNop 4 s

/-- FB NOP u1, 1 cycles (R407). -/
def execNopFB (s : State) : Result := undefinedNop 1 s

/-- FC NOP u3, 4 cycles (R412). -/
def execNopFC (_ignored16 : Word) (s : State) : Result := undefinedNop 4 s

/-- EA NOP imp, 2 cycles (R413). No operation. -/
def execNop (s : State) : Result := withNone 2 (fun s => s) s

/-- CB WAI imp, 3 cycles (R414). `mode <- Waiting`; PC stays at the byte after WAI. -/
def execWai (s : State) : Result := withNone 3 (fun s => { s with mode := .waiting }) s

/-- DB STP imp, 3 cycles (R415). `mode <- Stopped`; PC stays at the byte after STP. -/
def execStp (s : State) : Result := withNone 3 (fun s => { s with mode := .stopped }) s

end Sys2Proof.Machine
end

