-- ==== Sys2Proof/Machine/Dispatch.lean ====
section
/-! DEFINITION. One arm per constructor of Instr. `exec` runs the operation of an instruction whose bytes have been fetched: PC already holds
the address after the instruction (40 R171). -/

namespace Sys2Proof.Machine

def exec (i : Instr) (s : State) : Host.Outcome State Fault Refusal :=
  match i with
  | .ldaIzx zp8 => Sys2Proof.Machine.execLdaIzx zp8 s
  | .ldaZp zp8 => Sys2Proof.Machine.execLdaZp zp8 s
  | .ldaImm imm8 => Sys2Proof.Machine.execLdaImm imm8 s
  | .ldaAbs addr16 => Sys2Proof.Machine.execLdaAbs addr16 s
  | .ldaIzy zp8 => Sys2Proof.Machine.execLdaIzy zp8 s
  | .ldaZpi zp8 => Sys2Proof.Machine.execLdaZpi zp8 s
  | .ldaZpx zp8 => Sys2Proof.Machine.execLdaZpx zp8 s
  | .ldaAby addr16 => Sys2Proof.Machine.execLdaAby addr16 s
  | .ldaAbx addr16 => Sys2Proof.Machine.execLdaAbx addr16 s
  | .ldxImm imm8 => Sys2Proof.Machine.execLdxImm imm8 s
  | .ldxZp zp8 => Sys2Proof.Machine.execLdxZp zp8 s
  | .ldxAbs addr16 => Sys2Proof.Machine.execLdxAbs addr16 s
  | .ldxZpy zp8 => Sys2Proof.Machine.execLdxZpy zp8 s
  | .ldxAby addr16 => Sys2Proof.Machine.execLdxAby addr16 s
  | .ldyImm imm8 => Sys2Proof.Machine.execLdyImm imm8 s
  | .ldyZp zp8 => Sys2Proof.Machine.execLdyZp zp8 s
  | .ldyAbs addr16 => Sys2Proof.Machine.execLdyAbs addr16 s
  | .ldyZpx zp8 => Sys2Proof.Machine.execLdyZpx zp8 s
  | .ldyAbx addr16 => Sys2Proof.Machine.execLdyAbx addr16 s
  | .staIzx zp8 => Sys2Proof.Machine.execStaIzx zp8 s
  | .staZp zp8 => Sys2Proof.Machine.execStaZp zp8 s
  | .staAbs addr16 => Sys2Proof.Machine.execStaAbs addr16 s
  | .staIzy zp8 => Sys2Proof.Machine.execStaIzy zp8 s
  | .staZpi zp8 => Sys2Proof.Machine.execStaZpi zp8 s
  | .staZpx zp8 => Sys2Proof.Machine.execStaZpx zp8 s
  | .staAby addr16 => Sys2Proof.Machine.execStaAby addr16 s
  | .staAbx addr16 => Sys2Proof.Machine.execStaAbx addr16 s
  | .stxZp zp8 => Sys2Proof.Machine.execStxZp zp8 s
  | .stxAbs addr16 => Sys2Proof.Machine.execStxAbs addr16 s
  | .stxZpy zp8 => Sys2Proof.Machine.execStxZpy zp8 s
  | .styZp zp8 => Sys2Proof.Machine.execStyZp zp8 s
  | .styAbs addr16 => Sys2Proof.Machine.execStyAbs addr16 s
  | .styZpx zp8 => Sys2Proof.Machine.execStyZpx zp8 s
  | .stzZp zp8 => Sys2Proof.Machine.execStzZp zp8 s
  | .stzZpx zp8 => Sys2Proof.Machine.execStzZpx zp8 s
  | .stzAbs addr16 => Sys2Proof.Machine.execStzAbs addr16 s
  | .stzAbx addr16 => Sys2Proof.Machine.execStzAbx addr16 s
  | .adcIzx zp8 => Sys2Proof.Machine.execAdcIzx zp8 s
  | .adcZp zp8 => Sys2Proof.Machine.execAdcZp zp8 s
  | .adcImm imm8 => Sys2Proof.Machine.execAdcImm imm8 s
  | .adcAbs addr16 => Sys2Proof.Machine.execAdcAbs addr16 s
  | .adcIzy zp8 => Sys2Proof.Machine.execAdcIzy zp8 s
  | .adcZpi zp8 => Sys2Proof.Machine.execAdcZpi zp8 s
  | .adcZpx zp8 => Sys2Proof.Machine.execAdcZpx zp8 s
  | .adcAby addr16 => Sys2Proof.Machine.execAdcAby addr16 s
  | .adcAbx addr16 => Sys2Proof.Machine.execAdcAbx addr16 s
  | .sbcIzx zp8 => Sys2Proof.Machine.execSbcIzx zp8 s
  | .sbcZp zp8 => Sys2Proof.Machine.execSbcZp zp8 s
  | .sbcImm imm8 => Sys2Proof.Machine.execSbcImm imm8 s
  | .sbcAbs addr16 => Sys2Proof.Machine.execSbcAbs addr16 s
  | .sbcIzy zp8 => Sys2Proof.Machine.execSbcIzy zp8 s
  | .sbcZpi zp8 => Sys2Proof.Machine.execSbcZpi zp8 s
  | .sbcZpx zp8 => Sys2Proof.Machine.execSbcZpx zp8 s
  | .sbcAby addr16 => Sys2Proof.Machine.execSbcAby addr16 s
  | .sbcAbx addr16 => Sys2Proof.Machine.execSbcAbx addr16 s
  | .cmpIzx zp8 => Sys2Proof.Machine.execCmpIzx zp8 s
  | .cmpZp zp8 => Sys2Proof.Machine.execCmpZp zp8 s
  | .cmpImm imm8 => Sys2Proof.Machine.execCmpImm imm8 s
  | .cmpAbs addr16 => Sys2Proof.Machine.execCmpAbs addr16 s
  | .cmpIzy zp8 => Sys2Proof.Machine.execCmpIzy zp8 s
  | .cmpZpi zp8 => Sys2Proof.Machine.execCmpZpi zp8 s
  | .cmpZpx zp8 => Sys2Proof.Machine.execCmpZpx zp8 s
  | .cmpAby addr16 => Sys2Proof.Machine.execCmpAby addr16 s
  | .cmpAbx addr16 => Sys2Proof.Machine.execCmpAbx addr16 s
  | .cpxImm imm8 => Sys2Proof.Machine.execCpxImm imm8 s
  | .cpxZp zp8 => Sys2Proof.Machine.execCpxZp zp8 s
  | .cpxAbs addr16 => Sys2Proof.Machine.execCpxAbs addr16 s
  | .cpyImm imm8 => Sys2Proof.Machine.execCpyImm imm8 s
  | .cpyZp zp8 => Sys2Proof.Machine.execCpyZp zp8 s
  | .cpyAbs addr16 => Sys2Proof.Machine.execCpyAbs addr16 s
  | .incZp zp8 => Sys2Proof.Machine.execIncZp zp8 s
  | .incAbs addr16 => Sys2Proof.Machine.execIncAbs addr16 s
  | .incZpx zp8 => Sys2Proof.Machine.execIncZpx zp8 s
  | .incAbx addr16 => Sys2Proof.Machine.execIncAbx addr16 s
  | .decZp zp8 => Sys2Proof.Machine.execDecZp zp8 s
  | .decAbs addr16 => Sys2Proof.Machine.execDecAbs addr16 s
  | .decZpx zp8 => Sys2Proof.Machine.execDecZpx zp8 s
  | .decAbx addr16 => Sys2Proof.Machine.execDecAbx addr16 s
  | .andIzx zp8 => Sys2Proof.Machine.execAndIzx zp8 s
  | .andZp zp8 => Sys2Proof.Machine.execAndZp zp8 s
  | .andImm imm8 => Sys2Proof.Machine.execAndImm imm8 s
  | .andAbs addr16 => Sys2Proof.Machine.execAndAbs addr16 s
  | .andIzy zp8 => Sys2Proof.Machine.execAndIzy zp8 s
  | .andZpi zp8 => Sys2Proof.Machine.execAndZpi zp8 s
  | .andZpx zp8 => Sys2Proof.Machine.execAndZpx zp8 s
  | .andAby addr16 => Sys2Proof.Machine.execAndAby addr16 s
  | .andAbx addr16 => Sys2Proof.Machine.execAndAbx addr16 s
  | .oraIzx zp8 => Sys2Proof.Machine.execOraIzx zp8 s
  | .oraZp zp8 => Sys2Proof.Machine.execOraZp zp8 s
  | .oraImm imm8 => Sys2Proof.Machine.execOraImm imm8 s
  | .oraAbs addr16 => Sys2Proof.Machine.execOraAbs addr16 s
  | .oraIzy zp8 => Sys2Proof.Machine.execOraIzy zp8 s
  | .oraZpi zp8 => Sys2Proof.Machine.execOraZpi zp8 s
  | .oraZpx zp8 => Sys2Proof.Machine.execOraZpx zp8 s
  | .oraAby addr16 => Sys2Proof.Machine.execOraAby addr16 s
  | .oraAbx addr16 => Sys2Proof.Machine.execOraAbx addr16 s
  | .eorIzx zp8 => Sys2Proof.Machine.execEorIzx zp8 s
  | .eorZp zp8 => Sys2Proof.Machine.execEorZp zp8 s
  | .eorImm imm8 => Sys2Proof.Machine.execEorImm imm8 s
  | .eorAbs addr16 => Sys2Proof.Machine.execEorAbs addr16 s
  | .eorIzy zp8 => Sys2Proof.Machine.execEorIzy zp8 s
  | .eorZpi zp8 => Sys2Proof.Machine.execEorZpi zp8 s
  | .eorZpx zp8 => Sys2Proof.Machine.execEorZpx zp8 s
  | .eorAby addr16 => Sys2Proof.Machine.execEorAby addr16 s
  | .eorAbx addr16 => Sys2Proof.Machine.execEorAbx addr16 s
  | .bitZp zp8 => Sys2Proof.Machine.execBitZp zp8 s
  | .bitAbs addr16 => Sys2Proof.Machine.execBitAbs addr16 s
  | .bitZpx zp8 => Sys2Proof.Machine.execBitZpx zp8 s
  | .bitAbx addr16 => Sys2Proof.Machine.execBitAbx addr16 s
  | .bitImm imm8 => Sys2Proof.Machine.execBitImm imm8 s
  | .tsbZp zp8 => Sys2Proof.Machine.execTsbZp zp8 s
  | .tsbAbs addr16 => Sys2Proof.Machine.execTsbAbs addr16 s
  | .trbZp zp8 => Sys2Proof.Machine.execTrbZp zp8 s
  | .trbAbs addr16 => Sys2Proof.Machine.execTrbAbs addr16 s
  | .aslZp zp8 => Sys2Proof.Machine.execAslZp zp8 s
  | .aslAbs addr16 => Sys2Proof.Machine.execAslAbs addr16 s
  | .aslZpx zp8 => Sys2Proof.Machine.execAslZpx zp8 s
  | .aslAbx addr16 => Sys2Proof.Machine.execAslAbx addr16 s
  | .lsrZp zp8 => Sys2Proof.Machine.execLsrZp zp8 s
  | .lsrAbs addr16 => Sys2Proof.Machine.execLsrAbs addr16 s
  | .lsrZpx zp8 => Sys2Proof.Machine.execLsrZpx zp8 s
  | .lsrAbx addr16 => Sys2Proof.Machine.execLsrAbx addr16 s
  | .rolZp zp8 => Sys2Proof.Machine.execRolZp zp8 s
  | .rolAbs addr16 => Sys2Proof.Machine.execRolAbs addr16 s
  | .rolZpx zp8 => Sys2Proof.Machine.execRolZpx zp8 s
  | .rolAbx addr16 => Sys2Proof.Machine.execRolAbx addr16 s
  | .rorZp zp8 => Sys2Proof.Machine.execRorZp zp8 s
  | .rorAbs addr16 => Sys2Proof.Machine.execRorAbs addr16 s
  | .rorZpx zp8 => Sys2Proof.Machine.execRorZpx zp8 s
  | .rorAbx addr16 => Sys2Proof.Machine.execRorAbx addr16 s
  | .rmb0 zp8 => Sys2Proof.Machine.execRmb0 zp8 s
  | .rmb1 zp8 => Sys2Proof.Machine.execRmb1 zp8 s
  | .rmb2 zp8 => Sys2Proof.Machine.execRmb2 zp8 s
  | .rmb3 zp8 => Sys2Proof.Machine.execRmb3 zp8 s
  | .rmb4 zp8 => Sys2Proof.Machine.execRmb4 zp8 s
  | .rmb5 zp8 => Sys2Proof.Machine.execRmb5 zp8 s
  | .rmb6 zp8 => Sys2Proof.Machine.execRmb6 zp8 s
  | .rmb7 zp8 => Sys2Proof.Machine.execRmb7 zp8 s
  | .smb0 zp8 => Sys2Proof.Machine.execSmb0 zp8 s
  | .smb1 zp8 => Sys2Proof.Machine.execSmb1 zp8 s
  | .smb2 zp8 => Sys2Proof.Machine.execSmb2 zp8 s
  | .smb3 zp8 => Sys2Proof.Machine.execSmb3 zp8 s
  | .smb4 zp8 => Sys2Proof.Machine.execSmb4 zp8 s
  | .smb5 zp8 => Sys2Proof.Machine.execSmb5 zp8 s
  | .smb6 zp8 => Sys2Proof.Machine.execSmb6 zp8 s
  | .smb7 zp8 => Sys2Proof.Machine.execSmb7 zp8 s
  | .jmpAbs addr16 => Sys2Proof.Machine.execJmpAbs addr16 s
  | .jmpInd addr16 => Sys2Proof.Machine.execJmpInd addr16 s
  | .jmpIax addr16 => Sys2Proof.Machine.execJmpIax addr16 s
  | .jsr addr16 => Sys2Proof.Machine.execJsr addr16 s
  | .bpl rel8 => Sys2Proof.Machine.execBpl rel8 s
  | .bmi rel8 => Sys2Proof.Machine.execBmi rel8 s
  | .bvc rel8 => Sys2Proof.Machine.execBvc rel8 s
  | .bvs rel8 => Sys2Proof.Machine.execBvs rel8 s
  | .bcc rel8 => Sys2Proof.Machine.execBcc rel8 s
  | .bcs rel8 => Sys2Proof.Machine.execBcs rel8 s
  | .bne rel8 => Sys2Proof.Machine.execBne rel8 s
  | .beq rel8 => Sys2Proof.Machine.execBeq rel8 s
  | .bra rel8 => Sys2Proof.Machine.execBra rel8 s
  | .bbr0 zp8 rel8 => Sys2Proof.Machine.execBbr0 zp8 rel8 s
  | .bbr1 zp8 rel8 => Sys2Proof.Machine.execBbr1 zp8 rel8 s
  | .bbr2 zp8 rel8 => Sys2Proof.Machine.execBbr2 zp8 rel8 s
  | .bbr3 zp8 rel8 => Sys2Proof.Machine.execBbr3 zp8 rel8 s
  | .bbr4 zp8 rel8 => Sys2Proof.Machine.execBbr4 zp8 rel8 s
  | .bbr5 zp8 rel8 => Sys2Proof.Machine.execBbr5 zp8 rel8 s
  | .bbr6 zp8 rel8 => Sys2Proof.Machine.execBbr6 zp8 rel8 s
  | .bbr7 zp8 rel8 => Sys2Proof.Machine.execBbr7 zp8 rel8 s
  | .bbs0 zp8 rel8 => Sys2Proof.Machine.execBbs0 zp8 rel8 s
  | .bbs1 zp8 rel8 => Sys2Proof.Machine.execBbs1 zp8 rel8 s
  | .bbs2 zp8 rel8 => Sys2Proof.Machine.execBbs2 zp8 rel8 s
  | .bbs3 zp8 rel8 => Sys2Proof.Machine.execBbs3 zp8 rel8 s
  | .bbs4 zp8 rel8 => Sys2Proof.Machine.execBbs4 zp8 rel8 s
  | .bbs5 zp8 rel8 => Sys2Proof.Machine.execBbs5 zp8 rel8 s
  | .bbs6 zp8 rel8 => Sys2Proof.Machine.execBbs6 zp8 rel8 s
  | .bbs7 zp8 rel8 => Sys2Proof.Machine.execBbs7 zp8 rel8 s
  | .nop02 ignored8 => Sys2Proof.Machine.execNop02 ignored8 s
  | .nop22 ignored8 => Sys2Proof.Machine.execNop22 ignored8 s
  | .nop42 ignored8 => Sys2Proof.Machine.execNop42 ignored8 s
  | .nop62 ignored8 => Sys2Proof.Machine.execNop62 ignored8 s
  | .nop82 ignored8 => Sys2Proof.Machine.execNop82 ignored8 s
  | .nopC2 ignored8 => Sys2Proof.Machine.execNopC2 ignored8 s
  | .nopE2 ignored8 => Sys2Proof.Machine.execNopE2 ignored8 s
  | .nop44 ignored8 => Sys2Proof.Machine.execNop44 ignored8 s
  | .nop54 ignored8 => Sys2Proof.Machine.execNop54 ignored8 s
  | .nopD4 ignored8 => Sys2Proof.Machine.execNopD4 ignored8 s
  | .nopF4 ignored8 => Sys2Proof.Machine.execNopF4 ignored8 s
  | .nop5C ignored16 => Sys2Proof.Machine.execNop5C ignored16 s
  | .nopDC ignored16 => Sys2Proof.Machine.execNopDC ignored16 s
  | .nopFC ignored16 => Sys2Proof.Machine.execNopFC ignored16 s
  | .tax => Sys2Proof.Machine.execTax s
  | .tay => Sys2Proof.Machine.execTay s
  | .txa => Sys2Proof.Machine.execTxa s
  | .tya => Sys2Proof.Machine.execTya s
  | .tsx => Sys2Proof.Machine.execTsx s
  | .txs => Sys2Proof.Machine.execTxs s
  | .php => Sys2Proof.Machine.execPhp s
  | .pha => Sys2Proof.Machine.execPha s
  | .phx => Sys2Proof.Machine.execPhx s
  | .phy => Sys2Proof.Machine.execPhy s
  | .pla => Sys2Proof.Machine.execPla s
  | .plp => Sys2Proof.Machine.execPlp s
  | .plx => Sys2Proof.Machine.execPlx s
  | .ply => Sys2Proof.Machine.execPly s
  | .incAcc => Sys2Proof.Machine.execIncAcc s
  | .decAcc => Sys2Proof.Machine.execDecAcc s
  | .inx => Sys2Proof.Machine.execInx s
  | .iny => Sys2Proof.Machine.execIny s
  | .dex => Sys2Proof.Machine.execDex s
  | .dey => Sys2Proof.Machine.execDey s
  | .aslAcc => Sys2Proof.Machine.execAslAcc s
  | .lsrAcc => Sys2Proof.Machine.execLsrAcc s
  | .rolAcc => Sys2Proof.Machine.execRolAcc s
  | .rorAcc => Sys2Proof.Machine.execRorAcc s
  | .rts => Sys2Proof.Machine.execRts s
  | .rti => Sys2Proof.Machine.execRti s
  | .brk => Sys2Proof.Machine.execBrk s
  | .clc => Sys2Proof.Machine.execClc s
  | .sec => Sys2Proof.Machine.execSec s
  | .cli => Sys2Proof.Machine.execCli s
  | .sei => Sys2Proof.Machine.execSei s
  | .cld => Sys2Proof.Machine.execCld s
  | .sed => Sys2Proof.Machine.execSed s
  | .clv => Sys2Proof.Machine.execClv s
  | .nop03 => Sys2Proof.Machine.execNop03 s
  | .nop0B => Sys2Proof.Machine.execNop0B s
  | .nop13 => Sys2Proof.Machine.execNop13 s
  | .nop1B => Sys2Proof.Machine.execNop1B s
  | .nop23 => Sys2Proof.Machine.execNop23 s
  | .nop2B => Sys2Proof.Machine.execNop2B s
  | .nop33 => Sys2Proof.Machine.execNop33 s
  | .nop3B => Sys2Proof.Machine.execNop3B s
  | .nop43 => Sys2Proof.Machine.execNop43 s
  | .nop4B => Sys2Proof.Machine.execNop4B s
  | .nop53 => Sys2Proof.Machine.execNop53 s
  | .nop5B => Sys2Proof.Machine.execNop5B s
  | .nop63 => Sys2Proof.Machine.execNop63 s
  | .nop6B => Sys2Proof.Machine.execNop6B s
  | .nop73 => Sys2Proof.Machine.execNop73 s
  | .nop7B => Sys2Proof.Machine.execNop7B s
  | .nop83 => Sys2Proof.Machine.execNop83 s
  | .nop8B => Sys2Proof.Machine.execNop8B s
  | .nop93 => Sys2Proof.Machine.execNop93 s
  | .nop9B => Sys2Proof.Machine.execNop9B s
  | .nopA3 => Sys2Proof.Machine.execNopA3 s
  | .nopAB => Sys2Proof.Machine.execNopAB s
  | .nopB3 => Sys2Proof.Machine.execNopB3 s
  | .nopBB => Sys2Proof.Machine.execNopBB s
  | .nopC3 => Sys2Proof.Machine.execNopC3 s
  | .nopD3 => Sys2Proof.Machine.execNopD3 s
  | .nopE3 => Sys2Proof.Machine.execNopE3 s
  | .nopEB => Sys2Proof.Machine.execNopEB s
  | .nopF3 => Sys2Proof.Machine.execNopF3 s
  | .nopFB => Sys2Proof.Machine.execNopFB s
  | .nop => Sys2Proof.Machine.execNop s
  | .wai => Sys2Proof.Machine.execWai s
  | .stp => Sys2Proof.Machine.execStp s

end Sys2Proof.Machine
end

