-- ==== Sys2Proof/Machine/Fetch.lean ====
section
/-! DEFINITION. Fetching an instruction's bytes through the decoder and running it (40 R170 to R173). -/

namespace Sys2Proof.Machine

/-- One fetch (R170, R172): a read at PC, then PC advanced by one, modulo 65,536. -/
def fetchByte (s : State) : Res Byte :=
  (read s.pc s).bind fun v s1 => .ok v { s1 with pc := s1.pc + 1 }

/-- The opcode byte, then as many operand bytes as its row takes, each by one read with the decoder's side effects of that moment (R172, R173). -/
def fetch (s : State) : Res Instr :=
  (fetchByte s).bind fun op s1 =>
    match entryOf op with
    | .one i => .ok i s1
    | .two f => (fetchByte s1).bind fun b1 s2 => .ok (f b1) s2
    | .wide f => (fetchByte s1).bind fun b1 s2 => (fetchByte s2).bind fun b2 s3 => .ok (f (joinBytes b1 b2)) s3
    | .pair f => (fetchByte s1).bind fun b1 s2 => (fetchByte s2).bind fun b2 s3 => .ok (f b1 b2) s3

/-- `Step()` (R170): one instruction, run to its end. -/
def runInstruction (s : State) : Result :=
  match fetch s with
  | .ok i s1 => exec i s1
  | .stop f => .fault f

/-- One cycle of a Waiting processor (R443): nothing is fetched and the idle time is counted. -/
def idle (s : State) : State := s.tick 1

/-- What a machine that is to run the instruction at PC next must be in: Running, if it is neither Running nor SingleStep (R441, R442). -/
def runnable (m : Mode) : Mode :=
  match m with
  | .running => .running
  | .singleStep => .singleStep
  | .waiting | .stopped => .running

end Sys2Proof.Machine
end

