-- ==== Sys2Proof/Machine/Step.lean ====
section
/-! DEFINITION. One step of the machine: the host call `execute(1)` (60 R440 to R444, log 7). In Running and SingleStep it runs exactly one
instruction, since every instruction costs at least one cycle; in Waiting it counts one idle cycle; in Stopped it changes nothing. -/

namespace Sys2Proof.Machine

/-- `execute(1)` (R440). -/
def step (s : State) : Host.Outcome State Fault Refusal :=
  match s.mode with
  | .running => runInstruction s
  | .singleStep => runInstruction s
  | .waiting => .next (idle s)
  | .stopped => .next s

/-- The state with an instruction's bytes placed where the next step fetches them: the three bytes at PC, PC + 1 and PC + 2, the bits at
`nbits` and above 0 (log 13). -/
def State.withFetchWord (s : State) (nbits w : Nat) : State :=
  let v := w % 2 ^ nbits
  let s0 := { s with mode := runnable s.mode }
  let s1 := placeByte s.pc (BitVec.ofNat 8 v) s0
  let s2 := placeByte (s.pc + 1) (BitVec.ofNat 8 (v / 0x100)) s1
  placeByte (s.pc + 2) (BitVec.ofNat 8 (v / 0x10000)) s2

end Sys2Proof.Machine
end

