-- ==== Sys2Proof/Machine/HostCalls.lean ====
section
/-! DEFINITION. The host calls (60 R471): each acts on the state between two instructions and completes before the next begins (20 R123).
`step` makes none of them but `execute(1)` (log 12). -/

namespace Sys2Proof.Machine

/-- `reset()` (R500, R501), accepted in every mode: PC from 0xFFFC/0xFFFD through the decoder, SP = 0xFF, I = 1 (U reads 1 always), Running. -/
def resetCall (s : State) : Result :=
  ((read16 0xFFFC 0xFFFD s).bind fun target s1 =>
    .ok () ({ s1 with pc := target, sp := 0xFF, p := { s1.p with i := true }, mode := .running }.tick Config.resetCycles)).outcome

/-- `Enter(vector)` (R434): the shared entry with B clear, its cost, and mode Running. -/
def interruptEntry (vector : Word) (s : State) : Result :=
  ((enterHandler vector false s).bind fun _ s1 => .ok () { s1.tick Config.intCycles with mode := .running }).outcome

/-- `irq()` (R435): nothing while Stopped or while I = 1. -/
def irqCall (s : State) : Result :=
  if s.mode = .stopped then .next s
  else if s.p.i then .next s
  else interruptEntry 0xFFFE s

/-- `nmi()` (R436): nothing while Stopped, else entry whatever I holds. -/
def nmiCall (s : State) : Result :=
  if s.mode = .stopped then .next s else interruptEntry 0xFFFA s

/-- The loop of `execute` (R440): `target` is the cycle count to reach. One unit of `fuel` is one turn of the loop. -/
def executeLoop : Nat → Nat → State → Result
  | 0, _, s => .next s
  | fuel + 1, target, s =>
    if s.ticks.toNat < target then
      match s.mode with
      | .stopped => .next s
      | .waiting => .next { s with ticks := BitVec.ofNat 64 target }
      | .running | .singleStep =>
        match runInstruction s with
        | .next s1 => executeLoop fuel target s1
        | r => r
    else .next s

/-- `execute(n)` (R440). Every instruction costs at least one cycle, so `n` turns of the loop are enough (log 10). The returned value is PC. -/
def executeCall (n : Nat) (s : State) : Result :=
  if s.mode = .stopped then .next s else executeLoop n (s.ticks.toNat + n) s

/-- The keyboard write (R37, R468): a keystroke value whose bit 7 is 1 (log 16). -/
def pressKey (key : BitVec 7) (s : State) : State := { s with kbd := key.setWidth 8 ||| 0x80 }

/-- The read-only setter (R469). -/
def setReadonly (d : DriveId) (on : Bool) (s : State) : State :=
  { s with disk := s.disk.setDrive d { s.disk.drive d with readonly := on } }

/-- The mode setter (R34, R442, R469): SingleStep or Running, between the two modes that run instructions. Waiting ends only on NMI, a taken
IRQ or reset, and Stopped only on reset (R449), so there the setter does nothing (log 17). -/
def setSingleStep (on : Bool) (s : State) : State :=
  match s.mode with
  | .running | .singleStep => { s with mode := if on then .singleStep else .running }
  | .waiting | .stopped => s

/-- Whether an image load succeeds (R470): the file was read and is exactly `IMAGE_SIZE` bytes. -/
def loadSucceeds (file : Option (List Byte)) : Bool :=
  match file with
  | some bytes => bytes.length == Config.imageSize
  | none => false

/-- Image load (R470): a success replaces `data` and nothing else; a failure changes nothing. The file is its bytes, or none (log 17). -/
def loadImage (d : DriveId) (file : Option (List Byte)) (s : State) : State :=
  match file with
  | some bytes =>
    if bytes.length = Config.imageSize then
      { s with disk := s.disk.setDrive d { s.disk.drive d with data := Memory.ofBytes bytes } }
    else s
  | none => s

/-- Image save (R470): the bytes written out, none when the unit is read-only. It changes no state. -/
def saveImage (d : DriveId) (s : State) : Option (List Byte) :=
  if (s.disk.drive d).readonly then none else some ((s.disk.drive d).data.toBytes Config.imageSize)

/-- Writing the state for inspection (R448, R471): every field of the spec's state takes the value given, ROM images and the mode included.
The draws and the events are the model's own record of what was asked and emitted; the host cannot take them back (log 18). -/
def writeState (u : State) (s : State) : State := { u with draws := s.draws, events := s.events }

/-- The host calls, in full (R471). -/
inductive HostCall where
  | reset
  | irq
  | nmi
  | execute (n : Nat)
  | pressKey (key : BitVec 7)
  | setReadonly (d : DriveId) (on : Bool)
  | setSingleStep (on : Bool)
  | loadImage (d : DriveId) (file : Option (List Byte))
  | saveImage (d : DriveId)
  | readState
  | writeState (u : State)
  deriving DecidableEq, Repr

/-- One host call (R471). An image save and a read of the state change nothing (R448, R470). -/
def hostCall (c : HostCall) (s : State) : Result :=
  match c with
  | .reset => resetCall s
  | .irq => irqCall s
  | .nmi => nmiCall s
  | .execute n => executeCall n s
  | .pressKey key => .next (pressKey key s)
  | .setReadonly d on => .next (setReadonly d on s)
  | .setSingleStep on => .next (setSingleStep on s)
  | .loadImage d file => .next (loadImage d file s)
  | .saveImage _ => .next s
  | .readState => .next s
  | .writeState u => .next (writeState u s)

/-- What a host call hands back to the host. -/
inductive HostAnswer where
  | nothing
  /-- `execute` returns PC (R440). -/
  | pc (a : Word)
  /-- Whether an image load succeeded (R470). -/
  | loaded (ok : Bool)
  /-- The image a save writes out, none when it fails (R470). -/
  | saved (bytes : Option (List Byte))
  /-- The whole state, for inspection (R448). -/
  | state (s : State)
  deriving DecidableEq, Repr

/-- What a host call made in `s` hands back, `t` being the state it leaves (R440, R448, R470). -/
def hostAnswer (c : HostCall) (s t : State) : HostAnswer :=
  match c with
  | .execute _ => .pc t.pc
  | .loadImage _ file => .loaded (loadSucceeds file)
  | .saveImage d => .saved (saveImage d s)
  | .readState => .state s
  | .reset | .irq | .nmi | .pressKey _ | .setReadonly _ _ | .setSingleStep _ | .writeState _ => .nothing

end Sys2Proof.Machine
end

