-- ==== Sys2Proof/Safety.lean ====
section
/-! DEFINITION. What counts as a good state, and the terms the claims are stated in: addresses without side effects, effective addresses as
closed formulas, and the drives whose head stands on the image. -/

namespace Sys2Proof.Machine

/-- An address whose access has no side effect and moves one byte (R65): outside 0xC000 to 0xC0FF, and not 0xCFFF. -/
def quiet (a : Word) : Bool := (decide (a.toNat < 0xC000) || decide (0xC100 ≤ a.toNat)) && a != 0xCFFF

/-- The array that serves the zero page and the stack (R70). -/
def zeroBank (sw : Switches) : Bank := if sw.altzp then .aux else .main

/-- A byte of the zero page (R70). -/
def zeroPageByte (z : Byte) (s : State) : Byte := s.ram.byteAt (zeroBank s.sw) z.toNat

/-- The byte of the stack page at a stack pointer (R70, R230, R231). -/
def stackByte (sp : Byte) (s : State) : Byte := s.ram.byteAt (zeroBank s.sw) (0x100 + sp.toNat)

/-- A zero-page pointer, its high byte wrapping in the page (R183). -/
def pointerAt (z : Byte) (s : State) : Word := joinBytes (zeroPageByte z s) (zeroPageByte (z + 1) s)

/-- The effective address as a closed formula (R179 to R185). -/
def effAddr (m : MemMode) (s : State) : Word :=
  match m with
  | .zp z => zext16 z
  | .zpx z => zext16 (z + s.x)
  | .zpy z => zext16 (z + s.y)
  | .abs w => w
  | .abx w => w + zext16 s.x
  | .aby w => w + zext16 s.y
  | .izx z => pointerAt (z + s.x) s
  | .izy z => pointerAt z s + zext16 s.y
  | .zpi z => pointerAt z s

/-- Whether an indexed mode crosses a page (R182, R184). -/
def crosses (m : MemMode) (s : State) : Bool :=
  match m with
  | .abx w => decide (0xFF < w.toNat % 0x100 + s.x.toNat)
  | .aby w => decide (0xFF < w.toNat % 0x100 + s.y.toNat)
  | .izy z => decide (0xFF < (pointerAt z s).toNat % 0x100 + s.y.toNat)
  | _ => false

/-- The two states differ at most in what an access to a device may change: the soft switches, the keyboard latch, the disk controller, and
the model's own draw counter and event list. The processor, the cycle counter, the mode and every array are the same. -/
def SameButDevices (s t : State) : Prop :=
  t = { s with sw := t.sw, kbd := t.kbd, disk := t.disk, draws := t.draws, events := t.events }

/-- The size of a writable array (R35). -/
def Bank.size (b : Bank) : Nat :=
  match b with
  | .main | .aux => 0xC000
  | .lcMainB1 | .lcMainB2 | .lcAuxB1 | .lcAuxB2 => 0x1000
  | .lcMainHi | .lcAuxHi => 0x2000

/-- An array in canonical form that holds nothing at or past its size. -/
def Memory.fits (m : Memory) (size : Nat) : Bool := m.wf && m.all (fun c => decide (c.1 < size))

/-- What holds of a drive at all times (R39, R455): the clamp, the track formula, the cursor's range, and an image of `IMAGE_SIZE` bytes. -/
structure Drive.Inv (d : Drive) : Prop where
  halftrack_le : d.halftrack ≤ Config.htMax
  track_eq : d.track = (d.halftrack + 1) / 2
  nibble_lt : d.nibble < Config.trackLen
  data_fits : d.data.fits Config.imageSize = true

/-- What holds of the machine at all times: every array keeps its form and its size (R35), and both drives their invariant (R39). -/
structure State.Inv (s : State) : Prop where
  ram_fits : ∀ b, (s.ram.bank b).fits b.size = true
  rom_fits : s.rom.fits 0x4000 = true
  slot_fits : ∀ n m, s.slotRom.slot n = some m → m.fits 0x100 = true
  exp_fits : ∀ m, s.expRom = some m → m.fits 0x800 = true
  drv0 : s.disk.drv0.Inv
  drv1 : s.disk.drv1.Inv

/-- Both heads stand on a track the image holds (R40, R452): then no shift can raise the fault of R431. -/
def headsOnImage (k : Disk) : Bool := decide (k.drv0.track < Config.tracksInImage) && decide (k.drv1.track < Config.tracksInImage)

end Sys2Proof.Machine
end

