-- ==== Sys2Proof/Certificates/Slice0/Obligations.lean ====
section
/-! DEFINITION. The statements for the provers, from the numbered rules of spec/. Each is about every state unless it says otherwise.
`exec` starts with PC at the byte after the instruction (R171); `effAddr` and `crosses` (Safety) are the addressing formulas of R179 to R185. -/

namespace Sys2Proof.Claims

open Sys2Proof.Machine

/-! The terms the results are stated in, written from the spec's formulas and not from the model's operations. -/

/-- `SetNZ(r)` (R31). -/
def nz (p : Status) (r : Byte) : Status := { p with z := decide (r = 0), n := r.getLsbD 7 }

/-- A flag as the number 0 or 1. -/
def bit (b : Bool) : Nat := if b then 1 else 0

/-- The byte form of P with U = 1 (R27, R29), as a sum of bit values. -/
def statusByteOf (p : Status) : Byte :=
  BitVec.ofNat 8 (bit p.c + 2 * bit p.z + 4 * bit p.i + 8 * bit p.d + 16 * bit p.b + 32 + 64 * bit p.v + 128 * bit p.n)

/-- `lo | (hi << 8)` (R63). -/
def word (lo hi : Byte) : Word := BitVec.ofNat 16 (lo.toNat + 256 * hi.toNat)

/-- `w >> 8` and `w & 0xFF`. -/
def highOf (w : Word) : Byte := BitVec.ofNat 8 (w.toNat / 256)

def lowOf (w : Word) : Byte := BitVec.ofNat 8 w.toNat

/-- The operand of a reading instruction (R174, R178) and the state after its one read. -/
def operandRead (o : Operand) (s : State) : Res Byte :=
  match o with
  | .imm v => .ok v s
  | .mem m => read (effAddr m s) s

/-- Whether the operand's address computation crosses a page (R182, R184). -/
def operandCrosses (o : Operand) (s : State) : Bool :=
  match o with
  | .imm _ => false
  | .mem m => crosses m s

/-- The page penalty of an entry (R189). -/
def penalty (marked cross : Bool) : Nat := if marked && cross then 1 else 0

/-- A reading instruction (R191): its opcode byte, and that it completes with one read of its operand, the effect `eff`, and its cost. -/
def ReadForm (i : Instr) (opcode : Byte) (o : Operand) (base : Nat) (marked : Bool) (eff : Byte → State → State) : Prop :=
  i.opcode = opcode ∧
  ∀ s v s1, operandRead o s = .ok v s1 → exec i s = .next ((eff v s1).tick (base + penalty marked (operandCrosses o s)))

/-- The nine forms of the ALU group, at the columns _1, _5, _9, _D of two rows and at the zero-page indirect place (R143, R144). -/
def AluForms (izx zp imm : Byte → Instr) (abs : Word → Instr) (izy zpi zpx : Byte → Instr) (aby abx : Word → Instr) (col : Byte)
    (eff : Byte → State → State) : Prop :=
  (∀ b, ReadForm (izx b) (col + 0x01) (.mem (.izx b)) 6 false eff) ∧
  (∀ b, ReadForm (zp b) (col + 0x05) (.mem (.zp b)) 3 false eff) ∧
  (∀ b, ReadForm (imm b) (col + 0x09) (.imm b) 2 false eff) ∧
  (∀ w, ReadForm (abs w) (col + 0x0D) (.mem (.abs w)) 4 false eff) ∧
  (∀ b, ReadForm (izy b) (col + 0x11) (.mem (.izy b)) 5 true eff) ∧
  (∀ b, ReadForm (zpi b) (col + 0x12) (.mem (.zpi b)) 5 false eff) ∧
  (∀ b, ReadForm (zpx b) (col + 0x15) (.mem (.zpx b)) 4 false eff) ∧
  (∀ w, ReadForm (aby w) (col + 0x19) (.mem (.aby w)) 4 true eff) ∧
  (∀ w, ReadForm (abx w) (col + 0x1D) (.mem (.abx w)) 4 true eff)

/-- A storing instruction (R191): one write of `v` at the effective address, no read, and its base cost. -/
def StoreForm (i : Instr) (opcode : Byte) (m : MemMode) (base : Nat) (v : State → Byte) : Prop :=
  i.opcode = opcode ∧ ∀ s s1, write (effAddr m s) (v s) s = .ok () s1 → exec i s = .next (s1.tick base)

/-- A read-modify-write instruction in memory (R191, R192): one read, one write of the result at the same address, the status, and its cost. -/
def ModifyForm (i : Instr) (opcode : Byte) (m : MemMode) (base : Nat) (marked : Bool) (res : State → Byte → Byte × Status) : Prop :=
  i.opcode = opcode ∧
  ∀ s v s1 s2, read (effAddr m s) s = .ok v s1 → write (effAddr m s) (res s v).1 s1 = .ok () s2 →
    exec i s = .next ({ s2 with p := (res s v).2 }.tick (base + penalty marked (crosses m s)))

/-- The same instruction on the accumulator (R176), 2 cycles. -/
def AccForm (i : Instr) (opcode : Byte) (res : State → Byte → Byte × Status) : Prop :=
  i.opcode = opcode ∧ ∀ s, exec i s = .next ({ s with a := (res s s.a).1, p := (res s s.a).2 }.tick 2)

/-- An instruction that makes no access: its opcode byte, effect and cost. -/
def PlainForm (i : Instr) (opcode : Byte) (cost : Nat) (eff : State → State) : Prop :=
  i.opcode = opcode ∧ ∀ s, exec i s = .next ((eff s).tick cost)

/-- ADC (R251, R252). V = 1 exactly when A and M have the same sign and the 8-bit binary result has the other sign. -/
def adcEffect (m : Byte) (s : State) : State :=
  let bin := s.a.toNat + m.toNat + bit s.p.c
  let v := s.a.getLsbD 7 == m.getLsbD 7 && (BitVec.ofNat 8 bin).getLsbD 7 != s.a.getLsbD 7
  let lo0 := (s.a.toNat &&& 0x0F) + (m.toNat &&& 0x0F) + bit s.p.c
  let lo := if lo0 ≥ 0x0A then ((lo0 + 0x06) &&& 0x0F) + 0x10 else lo0
  let r0 := (s.a.toNat &&& 0xF0) + (m.toNat &&& 0xF0) + lo
  let r := if r0 ≥ 0xA0 then r0 + 0x60 else r0
  let sum := if s.p.d then r else bin
  let a1 : Byte := BitVec.ofNat 8 sum
  { s with a := a1, p := nz { s.p with v := v, c := decide (sum ≥ 0x100) } a1 }

/-- SBC (R253, R255): C and V from the binary subtraction in both modes, A corrected in decimal mode. -/
def sbcEffect (m : Byte) (s : State) : State :=
  let diff : Int := (s.a.toNat : Int) - m.toNat - (1 - bit s.p.c)
  let bin : Byte := BitVec.ofInt 8 diff
  let v := s.a.getLsbD 7 != m.getLsbD 7 && bin.getLsbD 7 != s.a.getLsbD 7
  let lo : Int := ((s.a.toNat &&& 0x0F : Nat) : Int) - ((m.toNat &&& 0x0F : Nat) : Int) + bit s.p.c - 1
  let r0 := if diff < 0 then diff - 0x60 else diff
  let r := if lo < 0 then r0 - 0x06 else r0
  let a1 : Byte := if s.p.d then BitVec.ofInt 8 r else bin
  { s with a := a1, p := nz { s.p with v := v, c := decide (0 ≤ diff) } a1 }

/-- A compare of a register with M (R258): N and Z of the difference, C the unsigned comparison. -/
def compareEffect (reg : State → Byte) (m : Byte) (s : State) : State :=
  { s with p := { nz s.p (reg s - m) with c := decide ((reg s).toNat ≥ m.toNat) } }

/-- The two decimal digits of a number below 100 as a BCD byte. -/
def bcd (n : Nat) : Byte := BitVec.ofNat 8 (n / 10 * 16 + n % 10)

/-- The target of a relative branch (R187): PC plus the signed displacement, modulo 65,536. -/
def target (pc : Word) (rel : Byte) : Word := BitVec.ofInt 16 ((pc.toNat : Int) + rel.toInt)

/-- 1 if two addresses lie in different pages (R190). -/
def pageDiff (a b : Word) : Nat := if a &&& 0xFF00 = b &&& 0xFF00 then 0 else 1

/-- A conditional branch (R190): not taken, `base` cycles; taken, 1 more, and 1 more when the target is in another page. -/
def branchEffect (base : Nat) (taken : Bool) (rel : Byte) (s : State) : State :=
  if taken then { s with pc := target s.pc rel }.tick (base + 1 + pageDiff (target s.pc rel) s.pc) else s.tick base

/-- A branch on bit `k` of a zero-page byte (R188, R190). -/
def BitBranch (f : Byte → Byte → Instr) (opcode : Byte) (k : Nat) (want : Bool) : Prop :=
  ∀ z rel, (f z rel).opcode = opcode ∧
    ∀ s, exec (f z rel) s = .next (branchEffect 5 (decide ((zeroPageByte z s).getLsbD k = want)) rel s)

/-- RMBn and SMBn: the zero-page byte replaced by `f` of it, no flag, 5 cycles. -/
def BitStore (i : Byte → Instr) (opcode : Byte) (f : Byte → Byte) : Prop :=
  ∀ z, (i z).opcode = opcode ∧
    ∀ s, exec (i z) s = .next ({ s with ram := s.ram.store (zeroBank s.sw) z.toNat (f (zeroPageByte z s)) }.tick 5)

/-- The RAM after three bytes are pushed (R230): the first at the stack pointer. -/
def pushed3 (s : State) (b1 b2 b3 : Byte) : Ram :=
  ((s.ram.store (zeroBank s.sw) (0x100 + s.sp.toNat) b1).store (zeroBank s.sw) (0x100 + (s.sp - 1).toNat) b2).store
    (zeroBank s.sw) (0x100 + (s.sp - 2).toNat) b3

/-- The state after the push sequence that BRK, IRQ and NMI share (R376, R434), without its cost: `ret` is the pushed PC. -/
def entered (vector ret : Word) (brk : Bool) (s : State) : State :=
  { s with
    ram := pushed3 s (highOf ret) (lowOf ret) (statusByteOf { s.p with b := brk })
    sp := s.sp - 3
    p := { s.p with b := brk, i := true, d := false }
    pc := word (peek vector s) (peek (vector + 1) s) }

/-! The opcode map's costs (R144), and which entries are marked `+p` (R189). -/

/-- Row 0_ of the base costs. -/
def costRow0 : List Nat := [7, 6, 2, 1, 5, 3, 5, 5, 3, 2, 2, 1, 6, 4, 6, 5]

/-- Row 1_ of the base costs. -/
def costRow1 : List Nat := [2, 5, 5, 1, 5, 4, 6, 5, 2, 4, 2, 1, 6, 4, 6, 5]

/-- Row 2_ of the base costs. -/
def costRow2 : List Nat := [6, 6, 2, 1, 3, 3, 5, 5, 4, 2, 2, 1, 4, 4, 6, 5]

/-- Row 3_ of the base costs. -/
def costRow3 : List Nat := [2, 5, 5, 1, 4, 4, 6, 5, 2, 4, 2, 1, 4, 4, 6, 5]

/-- Row 4_ of the base costs. -/
def costRow4 : List Nat := [6, 6, 2, 1, 3, 3, 5, 5, 3, 2, 2, 1, 3, 4, 6, 5]

/-- Row 5_ of the base costs. -/
def costRow5 : List Nat := [2, 5, 5, 1, 4, 4, 6, 5, 2, 4, 3, 1, 8, 4, 6, 5]

/-- Row 6_ of the base costs. -/
def costRow6 : List Nat := [6, 6, 2, 1, 3, 3, 5, 5, 4, 2, 2, 1, 6, 4, 6, 5]

/-- Row 7_ of the base costs. -/
def costRow7 : List Nat := [2, 5, 5, 1, 4, 4, 6, 5, 2, 4, 4, 1, 6, 4, 6, 5]

/-- Row 8_ of the base costs. -/
def costRow8 : List Nat := [3, 6, 2, 1, 3, 3, 3, 5, 2, 2, 2, 1, 4, 4, 4, 5]

/-- Row 9_ of the base costs. -/
def costRow9 : List Nat := [2, 6, 5, 1, 4, 4, 4, 5, 2, 5, 2, 1, 4, 5, 5, 5]

/-- Row A_ of the base costs. -/
def costRowA : List Nat := [2, 6, 2, 1, 3, 3, 3, 5, 2, 2, 2, 1, 4, 4, 4, 5]

/-- Row B_ of the base costs. -/
def costRowB : List Nat := [2, 5, 5, 1, 4, 4, 4, 5, 2, 4, 2, 1, 4, 4, 4, 5]

/-- Row C_ of the base costs. -/
def costRowC : List Nat := [2, 6, 2, 1, 3, 3, 5, 5, 2, 2, 2, 3, 4, 4, 6, 5]

/-- Row D_ of the base costs. -/
def costRowD : List Nat := [2, 5, 5, 1, 4, 4, 6, 5, 2, 4, 3, 3, 4, 4, 7, 5]

/-- Row E_ of the base costs. -/
def costRowE : List Nat := [2, 6, 2, 1, 3, 3, 5, 5, 2, 2, 2, 1, 4, 4, 6, 5]

/-- Row F_ of the base costs. -/
def costRowF : List Nat := [2, 5, 5, 1, 4, 4, 6, 5, 2, 4, 4, 1, 4, 4, 7, 5]

/-- The base cost of an opcode byte (R144). -/
def baseCost (op : Byte) : Nat :=
  (([costRow0, costRow1, costRow2, costRow3, costRow4, costRow5, costRow6, costRow7] ++
    [costRow8, costRow9, costRowA, costRowB, costRowC, costRowD, costRowE, costRowF]).getD (op.toNat / 16) []).getD (op.toNat % 16) 0

/-- The memory mode of an entry marked `+p` (R189). -/
def markedMode (i : Instr) : Option MemMode :=
  match i with
  | .oraIzy zp8 => some (.izy zp8)
  | .oraAby addr16 => some (.aby addr16)
  | .oraAbx addr16 => some (.abx addr16)
  | .aslAbx addr16 => some (.abx addr16)
  | .andIzy zp8 => some (.izy zp8)
  | .andAby addr16 => some (.aby addr16)
  | .bitAbx addr16 => some (.abx addr16)
  | .andAbx addr16 => some (.abx addr16)
  | .rolAbx addr16 => some (.abx addr16)
  | .eorIzy zp8 => some (.izy zp8)
  | .eorAby addr16 => some (.aby addr16)
  | .eorAbx addr16 => some (.abx addr16)
  | .lsrAbx addr16 => some (.abx addr16)
  | .adcIzy zp8 => some (.izy zp8)
  | .adcAby addr16 => some (.aby addr16)
  | .adcAbx addr16 => some (.abx addr16)
  | .rorAbx addr16 => some (.abx addr16)
  | .ldaIzy zp8 => some (.izy zp8)
  | .ldaAby addr16 => some (.aby addr16)
  | .ldyAbx addr16 => some (.abx addr16)
  | .ldaAbx addr16 => some (.abx addr16)
  | .ldxAby addr16 => some (.aby addr16)
  | .cmpIzy zp8 => some (.izy zp8)
  | .cmpAby addr16 => some (.aby addr16)
  | .cmpAbx addr16 => some (.abx addr16)
  | .sbcIzy zp8 => some (.izy zp8)
  | .sbcAby addr16 => some (.aby addr16)
  | .sbcAbx addr16 => some (.abx addr16)
  | _ => none

/-- Whether a conditional branch is taken, and its displacement (R346 to R370); none for other instructions. -/
def branchOf (i : Instr) (s : State) : Option (Bool × Byte) :=
  match i with
  | .bpl r => some (!s.p.n, r)
  | .bmi r => some (s.p.n, r)
  | .bvc r => some (!s.p.v, r)
  | .bvs r => some (s.p.v, r)
  | .bcc r => some (!s.p.c, r)
  | .bcs r => some (s.p.c, r)
  | .bne r => some (!s.p.z, r)
  | .beq r => some (s.p.z, r)
  | .bbr0 z r => some (!(zeroPageByte z s).getLsbD 0, r)
  | .bbr1 z r => some (!(zeroPageByte z s).getLsbD 1, r)
  | .bbr2 z r => some (!(zeroPageByte z s).getLsbD 2, r)
  | .bbr3 z r => some (!(zeroPageByte z s).getLsbD 3, r)
  | .bbr4 z r => some (!(zeroPageByte z s).getLsbD 4, r)
  | .bbr5 z r => some (!(zeroPageByte z s).getLsbD 5, r)
  | .bbr6 z r => some (!(zeroPageByte z s).getLsbD 6, r)
  | .bbr7 z r => some (!(zeroPageByte z s).getLsbD 7, r)
  | .bbs0 z r => some ((zeroPageByte z s).getLsbD 0, r)
  | .bbs1 z r => some ((zeroPageByte z s).getLsbD 1, r)
  | .bbs2 z r => some ((zeroPageByte z s).getLsbD 2, r)
  | .bbs3 z r => some ((zeroPageByte z s).getLsbD 3, r)
  | .bbs4 z r => some ((zeroPageByte z s).getLsbD 4, r)
  | .bbs5 z r => some ((zeroPageByte z s).getLsbD 5, r)
  | .bbs6 z r => some ((zeroPageByte z s).getLsbD 6, r)
  | .bbs7 z r => some ((zeroPageByte z s).getLsbD 7, r)
  | _ => none

/-- `page_penalty` (R189). -/
def pagePenalty (i : Instr) (s : State) : Nat :=
  match markedMode i with
  | some m => if crosses m s then 1 else 0
  | none => 0

/-- `branch_penalty` (R190); BRA pays the page crossing only. -/
def branchPenalty (i : Instr) (s : State) : Nat :=
  match i with
  | .bra r => pageDiff (target s.pc r) s.pc
  | _ =>
    match branchOf i s with
    | some (taken, r) => if taken then 1 + pageDiff (target s.pc r) s.pc else 0
    | none => 0

/-- The cost of an instruction (R177). -/
def cost (i : Instr) (s : State) : Nat := baseCost i.opcode + pagePenalty i s + branchPenalty i s

/-! The opcodes by what they write (R21 to R24, R32, R34) and the accesses an instruction makes at its effective address (R191). -/

/-- The nine opcodes of an ALU mnemonic, by its column base. -/
def alu (c : Byte) : List Byte := [c + 0x01, c + 0x05, c + 0x09, c + 0x0D, c + 0x11, c + 0x12, c + 0x15, c + 0x19, c + 0x1D]

/-- The five opcodes of a shift or rotate, by its column base. -/
def shifts (c : Byte) : List Byte := [c + 0x06, c + 0x0A, c + 0x0E, c + 0x16, c + 0x1E]

/-- The writers of A (R21). -/
def writesA : List Byte :=
  alu 0x00 ++ alu 0x20 ++ alu 0x40 ++ alu 0x60 ++ alu 0xA0 ++ alu 0xE0 ++ [0x68, 0x8A, 0x98, 0x0A, 0x2A, 0x4A, 0x6A, 0x1A, 0x3A]

/-- The writers of X (R22). -/
def writesX : List Byte := [0xA2, 0xA6, 0xAE, 0xB6, 0xBE, 0xAA, 0xBA, 0xE8, 0xCA, 0xFA]

/-- The writers of Y (R23). -/
def writesY : List Byte := [0xA0, 0xA4, 0xAC, 0xB4, 0xBC, 0xA8, 0xC8, 0x88, 0x7A]

/-- The writers of SP (R24). -/
def writesSp : List Byte := [0x9A, 0x08, 0x48, 0xDA, 0x5A, 0x28, 0x68, 0xFA, 0x7A, 0x20, 0x60, 0x40, 0x00]

/-- The writers of PC other than by fetching: jumps, calls, returns, branches, BRK. -/
def writesPc : List Byte :=
  [0x4C, 0x6C, 0x7C, 0x20, 0x60, 0x40, 0x00, 0x10, 0x30, 0x50, 0x70, 0x90, 0xB0, 0xD0, 0xF0, 0x80] ++
  [0x0F, 0x1F, 0x2F, 0x3F, 0x4F, 0x5F, 0x6F, 0x7F, 0x8F, 0x9F, 0xAF, 0xBF, 0xCF, 0xDF, 0xEF, 0xFF]

/-- WAI and STP, the writers of `mode` (R34). -/
def writesMode : List Byte := [0xCB, 0xDB]

/-- CMP, CPX and CPY. -/
def compares : List Byte := alu 0xC0 ++ [0xE0, 0xE4, 0xEC, 0xC0, 0xC4, 0xCC]

/-- The writers of C (R32). -/
def writesC : List Byte :=
  alu 0x60 ++ alu 0xE0 ++ compares ++ shifts 0x00 ++ shifts 0x20 ++ shifts 0x40 ++ shifts 0x60 ++ [0x18, 0x38, 0x28, 0x40]

/-- The writers of N (R32): the writers of Z without TSB, TRB and BIT immediate. -/
def writesN : List Byte :=
  alu 0xA0 ++ [0xA2, 0xA6, 0xAE, 0xB6, 0xBE, 0xA0, 0xA4, 0xAC, 0xB4, 0xBC] ++ [0xAA, 0xA8, 0x8A, 0x98, 0xBA, 0x68, 0xFA, 0x7A] ++
  alu 0x60 ++ alu 0xE0 ++ alu 0x20 ++ alu 0x00 ++ alu 0x40 ++ [0x24, 0x2C, 0x34, 0x3C] ++ compares ++
  [0x1A, 0xE6, 0xEE, 0xF6, 0xFE, 0x3A, 0xC6, 0xCE, 0xD6, 0xDE, 0xE8, 0xC8, 0xCA, 0x88] ++
  shifts 0x00 ++ shifts 0x20 ++ shifts 0x40 ++ shifts 0x60 ++ [0x28, 0x40]

/-- The writers of Z (R32). -/
def writesZ : List Byte := writesN ++ [0x89, 0x04, 0x0C, 0x14, 0x1C]

/-- The writers of I (R32). -/
def writesI : List Byte := [0x78, 0x58, 0x28, 0x40, 0x00]

/-- The writers of D (R32). -/
def writesD : List Byte := [0xF8, 0xD8, 0x28, 0x40, 0x00]

/-- The writers of B (R32). -/
def writesB : List Byte := [0x00, 0x28, 0x40]

/-- The writers of V (R32). -/
def writesV : List Byte := alu 0x60 ++ alu 0xE0 ++ [0x24, 0x2C, 0x34, 0x3C, 0xB8, 0x28, 0x40]

/-- The memory mode of the instructions that store at their effective address (R191: write and read-modify-write). -/
def storeMode (i : Instr) : Option MemMode :=
  match i with
  | .tsbZp zp8 => some (.zp zp8)
  | .aslZp zp8 => some (.zp zp8)
  | .rmb0 zp8 => some (.zp zp8)
  | .tsbAbs addr16 => some (.abs addr16)
  | .aslAbs addr16 => some (.abs addr16)
  | .trbZp zp8 => some (.zp zp8)
  | .aslZpx zp8 => some (.zpx zp8)
  | .rmb1 zp8 => some (.zp zp8)
  | .trbAbs addr16 => some (.abs addr16)
  | .aslAbx addr16 => some (.abx addr16)
  | .rolZp zp8 => some (.zp zp8)
  | .rmb2 zp8 => some (.zp zp8)
  | .rolAbs addr16 => some (.abs addr16)
  | .rolZpx zp8 => some (.zpx zp8)
  | .rmb3 zp8 => some (.zp zp8)
  | .rolAbx addr16 => some (.abx addr16)
  | .lsrZp zp8 => some (.zp zp8)
  | .rmb4 zp8 => some (.zp zp8)
  | .lsrAbs addr16 => some (.abs addr16)
  | .lsrZpx zp8 => some (.zpx zp8)
  | .rmb5 zp8 => some (.zp zp8)
  | .lsrAbx addr16 => some (.abx addr16)
  | .stzZp zp8 => some (.zp zp8)
  | .rorZp zp8 => some (.zp zp8)
  | .rmb6 zp8 => some (.zp zp8)
  | .rorAbs addr16 => some (.abs addr16)
  | .stzZpx zp8 => some (.zpx zp8)
  | .rorZpx zp8 => some (.zpx zp8)
  | .rmb7 zp8 => some (.zp zp8)
  | .rorAbx addr16 => some (.abx addr16)
  | .staIzx zp8 => some (.izx zp8)
  | .styZp zp8 => some (.zp zp8)
  | .staZp zp8 => some (.zp zp8)
  | .stxZp zp8 => some (.zp zp8)
  | .smb0 zp8 => some (.zp zp8)
  | .styAbs addr16 => some (.abs addr16)
  | .staAbs addr16 => some (.abs addr16)
  | .stxAbs addr16 => some (.abs addr16)
  | .staIzy zp8 => some (.izy zp8)
  | .staZpi zp8 => some (.zpi zp8)
  | .styZpx zp8 => some (.zpx zp8)
  | .staZpx zp8 => some (.zpx zp8)
  | .stxZpy zp8 => some (.zpy zp8)
  | .smb1 zp8 => some (.zp zp8)
  | .staAby addr16 => some (.aby addr16)
  | .stzAbs addr16 => some (.abs addr16)
  | .staAbx addr16 => some (.abx addr16)
  | .stzAbx addr16 => some (.abx addr16)
  | .smb2 zp8 => some (.zp zp8)
  | .smb3 zp8 => some (.zp zp8)
  | .decZp zp8 => some (.zp zp8)
  | .smb4 zp8 => some (.zp zp8)
  | .decAbs addr16 => some (.abs addr16)
  | .decZpx zp8 => some (.zpx zp8)
  | .smb5 zp8 => some (.zp zp8)
  | .decAbx addr16 => some (.abx addr16)
  | .incZp zp8 => some (.zp zp8)
  | .smb6 zp8 => some (.zp zp8)
  | .incAbs addr16 => some (.abs addr16)
  | .incZpx zp8 => some (.zpx zp8)
  | .smb7 zp8 => some (.zp zp8)
  | .incAbx addr16 => some (.abx addr16)
  | _ => none

/-- The memory mode of the instructions that only read at their effective address (R191: read). -/
def loadMode (i : Instr) : Option MemMode :=
  match i with
  | .oraIzx zp8 => some (.izx zp8)
  | .oraZp zp8 => some (.zp zp8)
  | .oraAbs addr16 => some (.abs addr16)
  | .oraIzy zp8 => some (.izy zp8)
  | .oraZpi zp8 => some (.zpi zp8)
  | .oraZpx zp8 => some (.zpx zp8)
  | .oraAby addr16 => some (.aby addr16)
  | .oraAbx addr16 => some (.abx addr16)
  | .andIzx zp8 => some (.izx zp8)
  | .bitZp zp8 => some (.zp zp8)
  | .andZp zp8 => some (.zp zp8)
  | .bitAbs addr16 => some (.abs addr16)
  | .andAbs addr16 => some (.abs addr16)
  | .andIzy zp8 => some (.izy zp8)
  | .andZpi zp8 => some (.zpi zp8)
  | .bitZpx zp8 => some (.zpx zp8)
  | .andZpx zp8 => some (.zpx zp8)
  | .andAby addr16 => some (.aby addr16)
  | .bitAbx addr16 => some (.abx addr16)
  | .andAbx addr16 => some (.abx addr16)
  | .eorIzx zp8 => some (.izx zp8)
  | .eorZp zp8 => some (.zp zp8)
  | .eorAbs addr16 => some (.abs addr16)
  | .eorIzy zp8 => some (.izy zp8)
  | .eorZpi zp8 => some (.zpi zp8)
  | .eorZpx zp8 => some (.zpx zp8)
  | .eorAby addr16 => some (.aby addr16)
  | .eorAbx addr16 => some (.abx addr16)
  | .adcIzx zp8 => some (.izx zp8)
  | .adcZp zp8 => some (.zp zp8)
  | .adcAbs addr16 => some (.abs addr16)
  | .adcIzy zp8 => some (.izy zp8)
  | .adcZpi zp8 => some (.zpi zp8)
  | .adcZpx zp8 => some (.zpx zp8)
  | .adcAby addr16 => some (.aby addr16)
  | .adcAbx addr16 => some (.abx addr16)
  | .ldaIzx zp8 => some (.izx zp8)
  | .ldyZp zp8 => some (.zp zp8)
  | .ldaZp zp8 => some (.zp zp8)
  | .ldxZp zp8 => some (.zp zp8)
  | .ldyAbs addr16 => some (.abs addr16)
  | .ldaAbs addr16 => some (.abs addr16)
  | .ldxAbs addr16 => some (.abs addr16)
  | .ldaIzy zp8 => some (.izy zp8)
  | .ldaZpi zp8 => some (.zpi zp8)
  | .ldyZpx zp8 => some (.zpx zp8)
  | .ldaZpx zp8 => some (.zpx zp8)
  | .ldxZpy zp8 => some (.zpy zp8)
  | .ldaAby addr16 => some (.aby addr16)
  | .ldyAbx addr16 => some (.abx addr16)
  | .ldaAbx addr16 => some (.abx addr16)
  | .ldxAby addr16 => some (.aby addr16)
  | .cmpIzx zp8 => some (.izx zp8)
  | .cpyZp zp8 => some (.zp zp8)
  | .cmpZp zp8 => some (.zp zp8)
  | .cpyAbs addr16 => some (.abs addr16)
  | .cmpAbs addr16 => some (.abs addr16)
  | .cmpIzy zp8 => some (.izy zp8)
  | .cmpZpi zp8 => some (.zpi zp8)
  | .cmpZpx zp8 => some (.zpx zp8)
  | .cmpAby addr16 => some (.aby addr16)
  | .cmpAbx addr16 => some (.abx addr16)
  | .sbcIzx zp8 => some (.izx zp8)
  | .cpxZp zp8 => some (.zp zp8)
  | .sbcZp zp8 => some (.zp zp8)
  | .cpxAbs addr16 => some (.abs addr16)
  | .sbcAbs addr16 => some (.abs addr16)
  | .sbcIzy zp8 => some (.izy zp8)
  | .sbcZpi zp8 => some (.zpi zp8)
  | .sbcZpx zp8 => some (.zpx zp8)
  | .sbcAby addr16 => some (.aby addr16)
  | .sbcAbx addr16 => some (.abx addr16)
  | _ => none

/-- How many bytes an instruction pushes (R232 to R235, R343, R376). -/
def pushes (i : Instr) : Nat :=
  match i with
  | .php | .pha | .phx | .phy => 1
  | .jsr _ => 2
  | .brk => 3
  | _ => 0

/-- The cells of the writable arrays an instruction stores to: the cell that takes a write at the effective address (none where the write
is discarded or goes to a soft switch), or the pushed bytes. -/
def storedCells (i : Instr) (s : State) : List (Bank × Nat) :=
  match storeMode i with
  | some m =>
    match sink s.sw (effAddr m s) with
    | .ram b => [(b, b.index (effAddr m s))]
    | _ => []
  | none => (List.range (pushes i)).map fun k => (zeroBank s.sw, 0x100 + (s.sp - BitVec.ofNat 8 k).toNat)

/-- The addresses an instruction accesses where a soft switch could stand: the effective address of a load, a store or a modify, and the
two pointer bytes of JMP (R191). The stack, the zero page and the vectors are never soft switches. -/
def accessAddrs (i : Instr) (s : State) : List Word :=
  match i with
  | .jmpInd w => [w, w + 1]
  | .jmpIax w => [w + zext16 s.x, w + zext16 s.x + 1]
  | _ =>
    match storeMode i, loadMode i with
    | some m, _ => [effAddr m s]
    | none, some m => [effAddr m s]
    | none, none => []

/-- An address some array backs in this state, so that a read of it does not show the floating bus. -/
def backed (a : Word) (s : State) : Bool :=
  match source s.sw a with
  | .ram _ => true
  | .rom => true
  | .slot n => (s.slotRom.slot n).isSome
  | .expansion => s.expRom.isSome
  | .switch => false

/-- MAIN or AUX. -/
def ramArray (aux : Bool) : Bank := if aux then .aux else .main

/-- `LcCell(a)` (R78): the array and the index. -/
def lcCell (sw : Switches) (a : Word) : Bank × Nat :=
  if a.toNat < 0xE000 then
    match sw.altzp, sw.lcbank2 with
    | true, true => (.lcAuxB2, a.toNat - 0xD000)
    | true, false => (.lcAuxB1, a.toNat - 0xD000)
    | false, true => (.lcMainB2, a.toNat - 0xD000)
    | false, false => (.lcMainB1, a.toNat - 0xD000)
  else
    match sw.altzp with
    | true => (.lcAuxHi, a.toNat - 0xE000)
    | false => (.lcMainHi, a.toNat - 0xE000)

/-- The floating-bus value (R92). -/
def floating (s : State) : Byte := BitVec.ofNat 8 s.ticks.toNat

/-- 0x80 for a set flag, else 0x00 (R97). -/
def flagByte (b : Bool) : Byte := if b then 0x80 else 0x00

/-- The bytes fetched one by one, each through the decoder with its side effects of that moment, PC advancing by one each (R170, R172). -/
def FetchesAs : List Byte → State → State → Prop
  | [], s, t => t = s
  | b :: bs, s, t => ∃ s1, read s.pc s = .ok b s1 ∧ FetchesAs bs { s1 with pc := s1.pc + 1 } t

/-- The mode lets instructions run (R441, R442). -/
def runs (s : State) : Prop := s.mode = .running ∨ s.mode = .singleStep

end Sys2Proof.Claims

open Sys2Proof Sys2Proof.Machine Sys2Proof.Claims

/-! Encoding. -/

/-- Decoding an encoded instruction gives it back, whatever follows it: no bit of an encoding is dropped (R140, R142, R148). -/
def Obligations.DecodeEncode : Prop := ∀ (i : Instr) (rest : List Byte), i.wellFormed = true → decode (encode i ++ rest) = .ok (i, rest)

/-- Any three bytes start with exactly one instruction: they decode, and to an instruction whose encoding is those bytes (R143, R147, R148). -/
def Obligations.EveryOpcodeDecodes : Prop :=
  ∀ (op b1 b2 : Byte) (rest : List Byte), ∃ i after,
    decode (op :: b1 :: b2 :: rest) = .ok (i, after) ∧ op :: b1 :: b2 :: rest = encode i ++ after ∧
    i.opcode = op ∧ 1 ≤ (encode i).length ∧ (encode i).length ≤ 3

/-- Words written out from the opcode map (R144), one per family. -/
def Obligations.KnownWords : Prop :=
  decode [0xA9, 0x2A] = .ok (.ldaImm 0x2A, []) ∧ decode [0x8D, 0x34, 0x12] = .ok (.staAbs 0x1234, []) ∧
  decode [0x48] = .ok (.pha, []) ∧ decode [0x71, 0x40] = .ok (.adcIzy 0x40, []) ∧ decode [0x3C, 0xFF, 0x20] = .ok (.bitAbx 0x20FF, []) ∧
  decode [0x6C, 0xFF, 0x12] = .ok (.jmpInd 0x12FF, []) ∧ decode [0xD0, 0xFC] = .ok (.bne 0xFC, []) ∧
  decode [0x8F, 0x10, 0xF0] = .ok (.bbs0 0x10 0xF0, []) ∧ decode [0x00, 0x55] = .ok (.brk, [0x55]) ∧
  decode [0x5C, 0x34, 0x12] = .ok (.nop5C 0x1234, []) ∧ decode [0xDB] = .ok (.stp, [])

/-! One step. -/

/-- When the bytes at PC, at addresses without side effects, decode to `i`, the step is `exec i` with PC past the instruction (R170, R171). -/
def Obligations.StepRunsDecoded : Prop :=
  ∀ (s : State) (i : Instr) (rest : List Byte),
    runs s → decode [peek s.pc s, peek (s.pc + 1) s, peek (s.pc + 2) s] = .ok (i, rest) →
    (∀ k, k < (encode i).length → quiet (s.pc + BitVec.ofNat 16 k) = true) →
    step s = exec i { s with pc := s.pc + BitVec.ofNat 16 (encode i).length }

/-- The same at any address: each byte is fetched by one read through the decoder, with its side effects, and the instruction runs in the
state they leave (R170, R172, R173). -/
def Obligations.StepFetchesThroughDecoder : Prop :=
  ∀ (s t : State) (i : Instr), runs s → FetchesAs (encode i) s t → step s = exec i t

/-- A step is the host call `execute(1)` (the model's choice, log 7): Waiting counts one idle cycle, Stopped changes nothing (R440 to R444). -/
def Obligations.StepIsExecuteOne : Prop :=
  (∀ s : State, step s = executeCall 1 s) ∧
  (∀ s : State, s.mode = .waiting → step s = .next { s with ticks := s.ticks + 1 }) ∧
  (∀ s : State, s.mode = .stopped → step s = .next s)

/-- `execute(n)` in Running and SingleStep, in full (R440 to R442): no budget runs nothing; else one step is made, and then the budget is met
and the call ends, or the call goes on with what is left of it; a fault of the step ends the call. It returns PC. A call that answers meets its
budget, or stopped, and overshoots by at most 7 cycles (R522). What Waiting and Stopped do is in `WaitAndStop`. -/
def Obligations.ExecuteMeetsBudget : Prop :=
  (∀ s : State, executeCall 0 s = .next s) ∧
  (∀ (n : Nat) (s t : State), 0 < n → runs s → s.ticks.toNat + n + 8 < 2 ^ 64 → step s = .next t →
    executeCall n s =
      if s.ticks.toNat + n ≤ t.ticks.toNat then .next t else executeCall (s.ticks.toNat + n - t.ticks.toNat) t) ∧
  (∀ (n : Nat) (s : State) (f : Fault), 0 < n → runs s → step s = .fault f → executeCall n s = .fault f) ∧
  (∀ (n : Nat) (s t : State), hostCall (.execute n) s = executeCall n s ∧ hostAnswer (.execute n) s t = .pc t.pc) ∧
  (∀ (n : Nat) (s t : State), s.ticks.toNat + n + 8 < 2 ^ 64 → executeCall n s = .next t →
    (t.mode = .stopped ∨ s.ticks.toNat + n ≤ t.ticks.toNat) ∧ t.ticks.toNat ≤ s.ticks.toNat + n + 7)

/-- Every instruction completes when both heads stand on the image, and costs base + page penalty + branch penalty cycles (R177, R430, R431). -/
def Obligations.EveryInstructionCompletes : Prop :=
  ∀ (i : Instr) (s : State), headsOnImage s.disk = true → ∃ t, exec i s = .next t ∧ t.ticks = s.ticks + BitVec.ofNat 64 (cost i s)

/-! Loads, stores, transfers. -/

/-- LDA, LDX, LDY (R200 to R202). -/
def Obligations.Loads : Prop :=
  let x : Byte → State → State := fun m s => { s with x := m, p := nz s.p m }
  let y : Byte → State → State := fun m s => { s with y := m, p := nz s.p m }
  AluForms .ldaIzx .ldaZp .ldaImm .ldaAbs .ldaIzy .ldaZpi .ldaZpx .ldaAby .ldaAbx 0xA0
    (fun m s => { s with a := m, p := nz s.p m }) ∧
  (∀ b, ReadForm (.ldxImm b) 0xA2 (.imm b) 2 false x) ∧ (∀ b, ReadForm (.ldxZp b) 0xA6 (.mem (.zp b)) 3 false x) ∧
  (∀ b, ReadForm (.ldxZpy b) 0xB6 (.mem (.zpy b)) 4 false x) ∧ (∀ w, ReadForm (.ldxAbs w) 0xAE (.mem (.abs w)) 4 false x) ∧
  (∀ w, ReadForm (.ldxAby w) 0xBE (.mem (.aby w)) 4 true x) ∧
  (∀ b, ReadForm (.ldyImm b) 0xA0 (.imm b) 2 false y) ∧ (∀ b, ReadForm (.ldyZp b) 0xA4 (.mem (.zp b)) 3 false y) ∧
  (∀ b, ReadForm (.ldyZpx b) 0xB4 (.mem (.zpx b)) 4 false y) ∧ (∀ w, ReadForm (.ldyAbs w) 0xAC (.mem (.abs w)) 4 false y) ∧
  (∀ w, ReadForm (.ldyAbx w) 0xBC (.mem (.abx w)) 4 true y)

/-- STA, STX, STY, STZ (R203 to R206): one write of the register or of 0x00, no page penalty, no flag. -/
def Obligations.Stores : Prop :=
  let a : State → Byte := fun s => s.a
  let x : State → Byte := fun s => s.x
  let y : State → Byte := fun s => s.y
  let z : State → Byte := fun _ => 0x00
  (∀ b, StoreForm (.staZp b) 0x85 (.zp b) 3 a) ∧ (∀ b, StoreForm (.staZpx b) 0x95 (.zpx b) 4 a) ∧
  (∀ w, StoreForm (.staAbs w) 0x8D (.abs w) 4 a) ∧ (∀ w, StoreForm (.staAbx w) 0x9D (.abx w) 5 a) ∧
  (∀ w, StoreForm (.staAby w) 0x99 (.aby w) 5 a) ∧ (∀ b, StoreForm (.staIzx b) 0x81 (.izx b) 6 a) ∧
  (∀ b, StoreForm (.staIzy b) 0x91 (.izy b) 6 a) ∧ (∀ b, StoreForm (.staZpi b) 0x92 (.zpi b) 5 a) ∧
  (∀ b, StoreForm (.stxZp b) 0x86 (.zp b) 3 x) ∧ (∀ b, StoreForm (.stxZpy b) 0x96 (.zpy b) 4 x) ∧
  (∀ w, StoreForm (.stxAbs w) 0x8E (.abs w) 4 x) ∧
  (∀ b, StoreForm (.styZp b) 0x84 (.zp b) 3 y) ∧ (∀ b, StoreForm (.styZpx b) 0x94 (.zpx b) 4 y) ∧
  (∀ w, StoreForm (.styAbs w) 0x8C (.abs w) 4 y) ∧
  (∀ b, StoreForm (.stzZp b) 0x64 (.zp b) 3 z) ∧ (∀ b, StoreForm (.stzZpx b) 0x74 (.zpx b) 4 z) ∧
  (∀ w, StoreForm (.stzAbs w) 0x9C (.abs w) 4 z) ∧ (∀ w, StoreForm (.stzAbx w) 0x9E (.abx w) 5 z)

/-- The register transfers and the register increments and decrements (R207 to R212, R263 to R266). -/
def Obligations.RegisterOnly : Prop :=
  PlainForm .tax 0xAA 2 (fun s => { s with x := s.a, p := nz s.p s.a }) ∧
  PlainForm .tay 0xA8 2 (fun s => { s with y := s.a, p := nz s.p s.a }) ∧
  PlainForm .txa 0x8A 2 (fun s => { s with a := s.x, p := nz s.p s.x }) ∧
  PlainForm .tya 0x98 2 (fun s => { s with a := s.y, p := nz s.p s.y }) ∧
  PlainForm .tsx 0xBA 2 (fun s => { s with x := s.sp, p := nz s.p s.sp }) ∧
  PlainForm .txs 0x9A 2 (fun s => { s with sp := s.x }) ∧
  PlainForm .inx 0xE8 2 (fun s => { s with x := s.x + 1, p := nz s.p (s.x + 1) }) ∧
  PlainForm .iny 0xC8 2 (fun s => { s with y := s.y + 1, p := nz s.p (s.y + 1) }) ∧
  PlainForm .dex 0xCA 2 (fun s => { s with x := s.x - 1, p := nz s.p (s.x - 1) }) ∧
  PlainForm .dey 0x88 2 (fun s => { s with y := s.y - 1, p := nz s.p (s.y - 1) })

/-! Stack. -/

/-- PHP, PHA, PHX, PHY (R230, R232 to R235): one byte written at 0x0100 | SP, then SP decremented; PHP pushes bits 4 and 5 as 1. -/
def Obligations.Pushes : Prop :=
  let push1 : Byte → State → State := fun v s =>
    { s with ram := s.ram.store (zeroBank s.sw) (0x100 + s.sp.toNat) v, sp := s.sp - 1 }
  PlainForm .php 0x08 3 (fun s => push1 (statusByteOf { s.p with b := true }) s) ∧
  PlainForm .pha 0x48 3 (fun s => push1 s.a s) ∧
  PlainForm .phx 0xDA 3 (fun s => push1 s.x s) ∧
  PlainForm .phy 0x5A 3 (fun s => push1 s.y s)

/-- PLA, PLX, PLY, PLP (R230, R236 to R239): SP incremented, then one byte read at 0x0100 | SP. -/
def Obligations.Pulls : Prop :=
  PlainForm .pla 0x68 4 (fun s => { s with sp := s.sp + 1, a := stackByte (s.sp + 1) s, p := nz s.p (stackByte (s.sp + 1) s) }) ∧
  PlainForm .plx 0xFA 4 (fun s => { s with sp := s.sp + 1, x := stackByte (s.sp + 1) s, p := nz s.p (stackByte (s.sp + 1) s) }) ∧
  PlainForm .ply 0x7A 4 (fun s => { s with sp := s.sp + 1, y := stackByte (s.sp + 1) s, p := nz s.p (stackByte (s.sp + 1) s) }) ∧
  (Instr.plp.opcode = 0x28 ∧ ∀ s, ∃ p : Status,
    exec .plp s = .next ({ s with sp := s.sp + 1, p := p }.tick 4) ∧ statusByteOf p = stackByte (s.sp + 1) s ||| 0x20)

/-! Arithmetic. -/

/-- ADC, binary and decimal (R251, R252). -/
def Obligations.AddWithCarry : Prop :=
  AluForms .adcIzx .adcZp .adcImm .adcAbs .adcIzy .adcZpi .adcZpx .adcAby .adcAbx 0x60 adcEffect

/-- SBC, binary and decimal (R253, R255). -/
def Obligations.SubtractWithBorrow : Prop :=
  AluForms .sbcIzx .sbcZp .sbcImm .sbcAbs .sbcIzy .sbcZpi .sbcZpx .sbcAby .sbcAbx 0xE0 sbcEffect

/-- On BCD operands ADC gives the digits of the decimal sum and its carry, and SBC the digits of the decimal difference and no borrow
(R252, R254, R255). -/
def Obligations.BcdDigits : Prop :=
  ∀ (m n : Nat) (s : State), m < 100 → n < 100 → s.p.d = true → s.a = bcd m →
    (∃ t, exec (.adcImm (bcd n)) s = .next t ∧ t.a = bcd ((m + n + bit s.p.c) % 100) ∧ t.p.c = decide (100 ≤ m + n + bit s.p.c)) ∧
    (∃ t, exec (.sbcImm (bcd n)) s = .next t ∧ t.a = bcd ((m + 100 - n - (1 - bit s.p.c)) % 100) ∧
      t.p.c = decide (n + (1 - bit s.p.c) ≤ m))

/-- `CLC; ADC #m; SEC; SBC #m` in decimal mode gives A back, and leaves C = 0 exactly when the ADC carried (R257). -/
def Obligations.BcdRoundTrip : Prop :=
  ∀ (k n : Nat) (s : State), k < 100 → n < 100 → s.p.d = true → s.a = bcd k →
    ∃ s1 s2 s3 s4, exec .clc s = .next s1 ∧ exec (.adcImm (bcd n)) s1 = .next s2 ∧ exec .sec s2 = .next s3 ∧
      exec (.sbcImm (bcd n)) s3 = .next s4 ∧ s4.a = s.a ∧ s4.p.c = !s2.p.c

/-- CMP, CPX, CPY (R258 to R260). -/
def Obligations.Compares : Prop :=
  AluForms .cmpIzx .cmpZp .cmpImm .cmpAbs .cmpIzy .cmpZpi .cmpZpx .cmpAby .cmpAbx 0xC0 (compareEffect (fun s => s.a)) ∧
  (∀ b, ReadForm (.cpxImm b) 0xE0 (.imm b) 2 false (compareEffect (fun s => s.x))) ∧
  (∀ b, ReadForm (.cpxZp b) 0xE4 (.mem (.zp b)) 3 false (compareEffect (fun s => s.x))) ∧
  (∀ w, ReadForm (.cpxAbs w) 0xEC (.mem (.abs w)) 4 false (compareEffect (fun s => s.x))) ∧
  (∀ b, ReadForm (.cpyImm b) 0xC0 (.imm b) 2 false (compareEffect (fun s => s.y))) ∧
  (∀ b, ReadForm (.cpyZp b) 0xC4 (.mem (.zp b)) 3 false (compareEffect (fun s => s.y))) ∧
  (∀ w, ReadForm (.cpyAbs w) 0xCC (.mem (.abs w)) 4 false (compareEffect (fun s => s.y)))

/-- INC and DEC (R261, R262). -/
def Obligations.IncDec : Prop :=
  let inc : State → Byte → Byte × Status := fun s m => (m + 1, nz s.p (m + 1))
  let dec : State → Byte → Byte × Status := fun s m => (m - 1, nz s.p (m - 1))
  AccForm .incAcc 0x1A inc ∧ (∀ b, ModifyForm (.incZp b) 0xE6 (.zp b) 5 false inc) ∧
  (∀ b, ModifyForm (.incZpx b) 0xF6 (.zpx b) 6 false inc) ∧ (∀ w, ModifyForm (.incAbs w) 0xEE (.abs w) 6 false inc) ∧
  (∀ w, ModifyForm (.incAbx w) 0xFE (.abx w) 7 false inc) ∧
  AccForm .decAcc 0x3A dec ∧ (∀ b, ModifyForm (.decZp b) 0xC6 (.zp b) 5 false dec) ∧
  (∀ b, ModifyForm (.decZpx b) 0xD6 (.zpx b) 6 false dec) ∧ (∀ w, ModifyForm (.decAbs w) 0xCE (.abs w) 6 false dec) ∧
  (∀ w, ModifyForm (.decAbx w) 0xDE (.abx w) 7 false dec)

/-! Logic, shifts, bits. -/

/-- AND, ORA, EOR (R280 to R282). -/
def Obligations.Logic : Prop :=
  AluForms .andIzx .andZp .andImm .andAbs .andIzy .andZpi .andZpx .andAby .andAbx 0x20
    (fun m s => { s with a := s.a &&& m, p := nz s.p (s.a &&& m) }) ∧
  AluForms .oraIzx .oraZp .oraImm .oraAbs .oraIzy .oraZpi .oraZpx .oraAby .oraAbx 0x00
    (fun m s => { s with a := s.a ||| m, p := nz s.p (s.a ||| m) }) ∧
  AluForms .eorIzx .eorZp .eorImm .eorAbs .eorIzy .eorZpi .eorZpx .eorAby .eorAbx 0x40
    (fun m s => { s with a := s.a ^^^ m, p := nz s.p (s.a ^^^ m) })

/-- BIT (R283): the immediate form changes Z only; the memory forms take N and V from M itself. -/
def Obligations.BitTest : Prop :=
  let z : Byte → State → State := fun m s => { s with p := { s.p with z := decide (s.a &&& m = 0) } }
  let nvz : Byte → State → State := fun m s =>
    { s with p := { s.p with z := decide (s.a &&& m = 0), n := m.getLsbD 7, v := m.getLsbD 6 } }
  (∀ b, ReadForm (.bitImm b) 0x89 (.imm b) 2 false z) ∧ (∀ b, ReadForm (.bitZp b) 0x24 (.mem (.zp b)) 3 false nvz) ∧
  (∀ b, ReadForm (.bitZpx b) 0x34 (.mem (.zpx b)) 4 false nvz) ∧ (∀ w, ReadForm (.bitAbs w) 0x2C (.mem (.abs w)) 4 false nvz) ∧
  (∀ w, ReadForm (.bitAbx w) 0x3C (.mem (.abx w)) 4 true nvz)

/-- TSB and TRB (R284, R285): Z only. -/
def Obligations.TestAndModify : Prop :=
  let tsb : State → Byte → Byte × Status := fun s m => (m ||| s.a, { s.p with z := decide (s.a &&& m = 0) })
  let trb : State → Byte → Byte × Status := fun s m => (m &&& (s.a ^^^ 0xFF), { s.p with z := decide (s.a &&& m = 0) })
  (∀ b, ModifyForm (.tsbZp b) 0x04 (.zp b) 5 false tsb) ∧ (∀ w, ModifyForm (.tsbAbs w) 0x0C (.abs w) 6 false tsb) ∧
  (∀ b, ModifyForm (.trbZp b) 0x14 (.zp b) 5 false trb) ∧ (∀ w, ModifyForm (.trbAbs w) 0x1C (.abs w) 6 false trb)

/-- ASL, LSR, ROL, ROR (R286 to R289), the results as numbers. -/
def Obligations.Shifts : Prop :=
  let out : State → Nat → Bool → Byte × Status := fun s v c =>
    (BitVec.ofNat 8 v, nz { s.p with c := c } (BitVec.ofNat 8 v))
  let asl : State → Byte → Byte × Status := fun s m => out s (2 * m.toNat) (m.getLsbD 7)
  let lsr : State → Byte → Byte × Status := fun s m => out s (m.toNat / 2) (m.getLsbD 0)
  let rol : State → Byte → Byte × Status := fun s m => out s (2 * m.toNat + bit s.p.c) (m.getLsbD 7)
  let ror : State → Byte → Byte × Status := fun s m => out s (m.toNat / 2 + 128 * bit s.p.c) (m.getLsbD 0)
  AccForm .aslAcc 0x0A asl ∧ (∀ b, ModifyForm (.aslZp b) 0x06 (.zp b) 5 false asl) ∧
  (∀ b, ModifyForm (.aslZpx b) 0x16 (.zpx b) 6 false asl) ∧ (∀ w, ModifyForm (.aslAbs w) 0x0E (.abs w) 6 false asl) ∧
  (∀ w, ModifyForm (.aslAbx w) 0x1E (.abx w) 6 true asl) ∧
  AccForm .lsrAcc 0x4A lsr ∧ (∀ b, ModifyForm (.lsrZp b) 0x46 (.zp b) 5 false lsr) ∧
  (∀ b, ModifyForm (.lsrZpx b) 0x56 (.zpx b) 6 false lsr) ∧ (∀ w, ModifyForm (.lsrAbs w) 0x4E (.abs w) 6 false lsr) ∧
  (∀ w, ModifyForm (.lsrAbx w) 0x5E (.abx w) 6 true lsr) ∧
  AccForm .rolAcc 0x2A rol ∧ (∀ b, ModifyForm (.rolZp b) 0x26 (.zp b) 5 false rol) ∧
  (∀ b, ModifyForm (.rolZpx b) 0x36 (.zpx b) 6 false rol) ∧ (∀ w, ModifyForm (.rolAbs w) 0x2E (.abs w) 6 false rol) ∧
  (∀ w, ModifyForm (.rolAbx w) 0x3E (.abx w) 6 true rol) ∧
  AccForm .rorAcc 0x6A ror ∧ (∀ b, ModifyForm (.rorZp b) 0x66 (.zp b) 5 false ror) ∧
  (∀ b, ModifyForm (.rorZpx b) 0x76 (.zpx b) 6 false ror) ∧ (∀ w, ModifyForm (.rorAbs w) 0x6E (.abs w) 6 false ror) ∧
  (∀ w, ModifyForm (.rorAbx w) 0x7E (.abx w) 6 true ror)

/-- RMB0 to RMB7 (R291 to R298). -/
def Obligations.ResetMemoryBit : Prop :=
  BitStore .rmb0 0x07 (fun m => m &&& 0xFE) ∧ BitStore .rmb1 0x17 (fun m => m &&& 0xFD) ∧
  BitStore .rmb2 0x27 (fun m => m &&& 0xFB) ∧ BitStore .rmb3 0x37 (fun m => m &&& 0xF7) ∧
  BitStore .rmb4 0x47 (fun m => m &&& 0xEF) ∧ BitStore .rmb5 0x57 (fun m => m &&& 0xDF) ∧
  BitStore .rmb6 0x67 (fun m => m &&& 0xBF) ∧ BitStore .rmb7 0x77 (fun m => m &&& 0x7F)

/-- SMB0 to SMB7 (R299 to R306). -/
def Obligations.SetMemoryBit : Prop :=
  BitStore .smb0 0x87 (fun m => m ||| 0x01) ∧ BitStore .smb1 0x97 (fun m => m ||| 0x02) ∧
  BitStore .smb2 0xA7 (fun m => m ||| 0x04) ∧ BitStore .smb3 0xB7 (fun m => m ||| 0x08) ∧
  BitStore .smb4 0xC7 (fun m => m ||| 0x10) ∧ BitStore .smb5 0xD7 (fun m => m ||| 0x20) ∧
  BitStore .smb6 0xE7 (fun m => m ||| 0x40) ∧ BitStore .smb7 0xF7 (fun m => m ||| 0x80)

/-! Control transfer. -/

/-- JMP absolute, indirect, absolute indexed indirect (R340 to R342). -/
def Obligations.Jumps : Prop :=
  (∀ w, PlainForm (.jmpAbs w) 0x4C 3 (fun s => { s with pc := w })) ∧
  (∀ (w : Word) (s : State) (lo hi : Byte) (s1 s2 : State), read w s = .ok lo s1 → read (w + 1) s1 = .ok hi s2 →
    exec (.jmpInd w) s = .next ({ s2 with pc := word lo hi }.tick 6)) ∧
  (∀ (w p : Word) (s : State) (lo hi : Byte) (s1 s2 : State), p = BitVec.ofNat 16 (w.toNat + s.x.toNat) →
    read p s = .ok lo s1 → read (p + 1) s1 = .ok hi s2 →
    exec (.jmpIax w) s = .next ({ s2 with pc := word lo hi }.tick 6)) ∧
  (∀ w, (Instr.jmpInd w).opcode = 0x6C ∧ (Instr.jmpIax w).opcode = 0x7C)

/-- JSR pushes the address of its last byte, high byte first; RTS pulls it and adds one, so RTS comes back to the byte after JSR with SP
as before (R343, R344). -/
def Obligations.CallsAndReturns : Prop :=
  (∀ w, PlainForm (.jsr w) 0x20 6 (fun s =>
    { s with
      ram := (s.ram.store (zeroBank s.sw) (0x100 + s.sp.toNat) (highOf (s.pc - 1))).store
        (zeroBank s.sw) (0x100 + (s.sp - 1).toNat) (lowOf (s.pc - 1))
      sp := s.sp - 2, pc := w })) ∧
  PlainForm .rts 0x60 6 (fun s => { s with sp := s.sp + 2, pc := word (stackByte (s.sp + 1) s) (stackByte (s.sp + 2) s) + 1 }) ∧
  ∀ (w : Word) (s : State), s.Inv → ∃ t u, exec (.jsr w) s = .next t ∧ exec .rts t = .next u ∧ u.pc = s.pc ∧ u.sp = s.sp

/-- RTI pulls P, then PC; it does not change the mode (R345). -/
def Obligations.ReturnFromInterrupt : Prop :=
  Instr.rti.opcode = 0x40 ∧ ∀ s, ∃ p : Status,
    exec .rti s = .next ({ s with
      sp := s.sp + 3, p := p, pc := word (stackByte (s.sp + 2) s) (stackByte (s.sp + 3) s) }.tick 6) ∧
    statusByteOf p = stackByte (s.sp + 1) s ||| 0x20

/-- The conditional branches and BRA (R346 to R354). -/
def Obligations.Branches : Prop :=
  ∀ (r : Byte) (s : State),
    exec (.bpl r) s = .next (branchEffect 2 (decide (s.p.n = false)) r s) ∧ exec (.bmi r) s = .next (branchEffect 2 s.p.n r s) ∧
    exec (.bvc r) s = .next (branchEffect 2 (decide (s.p.v = false)) r s) ∧ exec (.bvs r) s = .next (branchEffect 2 s.p.v r s) ∧
    exec (.bcc r) s = .next (branchEffect 2 (decide (s.p.c = false)) r s) ∧ exec (.bcs r) s = .next (branchEffect 2 s.p.c r s) ∧
    exec (.bne r) s = .next (branchEffect 2 (decide (s.p.z = false)) r s) ∧ exec (.beq r) s = .next (branchEffect 2 s.p.z r s) ∧
    exec (.bra r) s = .next ({ s with pc := target s.pc r }.tick (3 + pageDiff (target s.pc r) s.pc)) ∧
    [(Instr.bpl r).opcode, (Instr.bmi r).opcode, (Instr.bvc r).opcode, (Instr.bvs r).opcode, (Instr.bcc r).opcode,
      (Instr.bcs r).opcode, (Instr.bne r).opcode, (Instr.beq r).opcode, (Instr.bra r).opcode] =
      [0x10, 0x30, 0x50, 0x70, 0x90, 0xB0, 0xD0, 0xF0, 0x80]

/-- BBR0 to BBR7 (R355 to R362). -/
def Obligations.BranchOnBitReset : Prop :=
  BitBranch .bbr0 0x0F 0 false ∧ BitBranch .bbr1 0x1F 1 false ∧ BitBranch .bbr2 0x2F 2 false ∧ BitBranch .bbr3 0x3F 3 false ∧
  BitBranch .bbr4 0x4F 4 false ∧ BitBranch .bbr5 0x5F 5 false ∧ BitBranch .bbr6 0x6F 6 false ∧ BitBranch .bbr7 0x7F 7 false

/-- BBS0 to BBS7 (R363 to R370). -/
def Obligations.BranchOnBitSet : Prop :=
  BitBranch .bbs0 0x8F 0 true ∧ BitBranch .bbs1 0x9F 1 true ∧ BitBranch .bbs2 0xAF 2 true ∧ BitBranch .bbs3 0xBF 3 true ∧
  BitBranch .bbs4 0xCF 4 true ∧ BitBranch .bbs5 0xDF 5 true ∧ BitBranch .bbs6 0xEF 6 true ∧ BitBranch .bbs7 0xFF 7 true

/-- BRK (R376): PC is the address of BRK + 1 when its operation starts, so the pushed PC is the address of BRK + 2. -/
def Obligations.Break : Prop :=
  PlainForm .brk 0x00 7 (fun s => entered 0xFFFE (s.pc + 1) true s)

/-- After BRK an RTI returns to the address of BRK + 2 with SP and the flags of before, and B set; bit 4 of the pushed status tells BRK from
IRQ (R377). -/
def Obligations.BreakThenReturn : Prop :=
  ∀ s : State, s.Inv →
    (∃ t u, exec .brk s = .next t ∧ (stackByte (t.sp + 1) t).getLsbD 4 = true ∧
      exec .rti t = .next u ∧ u.pc = s.pc + 1 ∧ u.sp = s.sp ∧ u.p = { s.p with b := true }) ∧
    (s.mode ≠ .stopped → s.p.i = false → ∃ t, irqCall s = .next t ∧ (stackByte (t.sp + 1) t).getLsbD 4 = false)

/-! Flags, no-operations, WAI and STP. -/

/-- CLC, SEC, CLI, SEI, CLD, SED, CLV (R400 to R406). -/
def Obligations.FlagInstructions : Prop :=
  PlainForm .clc 0x18 2 (fun s => { s with p := { s.p with c := false } }) ∧
  PlainForm .sec 0x38 2 (fun s => { s with p := { s.p with c := true } }) ∧
  PlainForm .cli 0x58 2 (fun s => { s with p := { s.p with i := false } }) ∧
  PlainForm .sei 0x78 2 (fun s => { s with p := { s.p with i := true } }) ∧
  PlainForm .cld 0xD8 2 (fun s => { s with p := { s.p with d := false } }) ∧
  PlainForm .sed 0xF8 2 (fun s => { s with p := { s.p with d := true } }) ∧
  PlainForm .clv 0xB8 2 (fun s => { s with p := { s.p with v := false } })

/-- The undefined opcodes, by their opcode bytes and lengths, and NOP: nothing changes but `ticks`, whatever the operand bytes (R407 to R413). -/
def Obligations.NoOperations : Prop :=
  ∀ (i : Instr) (s : State),
    (i.opcode ∈ ([0x03, 0x0B, 0x13, 0x1B, 0x23, 0x2B, 0x33, 0x3B, 0x43, 0x4B, 0x53, 0x5B, 0x63, 0x6B, 0x73] : List Byte) ++
        ([0x7B, 0x83, 0x8B, 0x93, 0x9B, 0xA3, 0xAB, 0xB3, 0xBB, 0xC3, 0xD3, 0xE3, 0xEB, 0xF3, 0xFB] : List Byte) →
      (encode i).length = 1 ∧ exec i s = .next (s.tick 1)) ∧
    (i.opcode ∈ ([0x02, 0x22, 0x42, 0x62, 0x82, 0xC2, 0xE2] : List Byte) → (encode i).length = 2 ∧ exec i s = .next (s.tick 2)) ∧
    (i.opcode = 0x44 → (encode i).length = 2 ∧ exec i s = .next (s.tick 3)) ∧
    (i.opcode ∈ ([0x54, 0xD4, 0xF4] : List Byte) → (encode i).length = 2 ∧ exec i s = .next (s.tick 4)) ∧
    (i.opcode = 0x5C → (encode i).length = 3 ∧ exec i s = .next (s.tick 8)) ∧
    (i.opcode ∈ ([0xDC, 0xFC] : List Byte) → (encode i).length = 3 ∧ exec i s = .next (s.tick 4)) ∧
    (i.opcode = 0xEA → (encode i).length = 1 ∧ exec i s = .next (s.tick 2))

/-- WAI and STP (R414, R415): the mode, 3 cycles; then Waiting fetches nothing and counts the whole budget (R443) until NMI, a taken IRQ or
reset (R435, R436), and Stopped changes nothing until reset (R444). The last two clauses, that no other host call leaves either mode, rest on
THE MODEL'S CHOICE where the rules differ among themselves: the mode setter does nothing there (log 17: R449 is followed, where R34 and R469
give the setter without a condition), and only the host's own write of the whole state is excepted (R448, log 18). -/
def Obligations.WaitAndStop : Prop :=
  PlainForm .wai 0xCB 3 (fun s => { s with mode := .waiting }) ∧
  PlainForm .stp 0xDB 3 (fun s => { s with mode := .stopped }) ∧
  (∀ (n : Nat) (s : State), s.mode = .waiting → executeCall n s = .next { s with ticks := s.ticks + BitVec.ofNat 64 n }) ∧
  (∀ s : State, s.mode = .waiting → s.p.i = true → irqCall s = .next s) ∧
  (∀ s t : State, s.mode = .waiting → s.p.i = false → irqCall s = .next t → t.mode = .running) ∧
  (∀ s t : State, s.mode = .waiting → nmiCall s = .next t → t.mode = .running) ∧
  (∀ s : State, s.mode = .stopped → irqCall s = .next s ∧ nmiCall s = .next s ∧ ∀ n, executeCall n s = .next s) ∧
  (∀ s t : State, resetCall s = .next t → t.mode = .running) ∧
  (∀ (c : HostCall) (s t : State), s.mode = .stopped → hostCall c s = .next t →
    (t.mode = .stopped ∧ t.ticks = s.ticks ∧ t.pc = s.pc) ∨ c = .reset ∨ ∃ u, c = .writeState u) ∧
  (∀ (c : HostCall) (s t : State), s.mode = .waiting → hostCall c s = .next t →
    t.mode = .waiting ∨ c = .reset ∨ c = .nmi ∨ (c = .irq ∧ s.p.i = false) ∨ ∃ u, c = .writeState u)

/-! Frames: what an instruction leaves unchanged when it answers a next state. -/

/-- Only the named writers change A, X, Y, SP, PC and the mode (R21 to R25, R34). -/
def Obligations.FrameRegisters : Prop :=
  ∀ (i : Instr) (s t : State), exec i s = .next t →
    (i.opcode ∉ writesA → t.a = s.a) ∧ (i.opcode ∉ writesX → t.x = s.x) ∧ (i.opcode ∉ writesY → t.y = s.y) ∧
    (i.opcode ∉ writesSp → t.sp = s.sp) ∧ (i.opcode ∉ writesPc → t.pc = s.pc) ∧ (i.opcode ∉ writesMode → t.mode = s.mode)

/-- Only the named writers change each flag (R32). -/
def Obligations.FrameFlags : Prop :=
  ∀ (i : Instr) (s t : State), exec i s = .next t →
    (i.opcode ∉ writesC → t.p.c = s.p.c) ∧ (i.opcode ∉ writesZ → t.p.z = s.p.z) ∧ (i.opcode ∉ writesI → t.p.i = s.p.i) ∧
    (i.opcode ∉ writesD → t.p.d = s.p.d) ∧ (i.opcode ∉ writesB → t.p.b = s.p.b) ∧ (i.opcode ∉ writesV → t.p.v = s.p.v) ∧
    (i.opcode ∉ writesN → t.p.n = s.p.n)

/-- Every cell of every array is unchanged but the cells the instruction stores to, and the read-only arrays always (R35, R191). -/
def Obligations.FrameCells : Prop :=
  ∀ (i : Instr) (s t : State), exec i s = .next t →
    (∀ b k, (b, k) ∉ storedCells i s → t.ram.byteAt b k = s.ram.byteAt b k) ∧
    t.rom = s.rom ∧ t.slotRom = s.slotRom ∧ t.expRom = s.expRom

/-- Through the model's read of one byte: when the instruction's accesses are quiet, every backed address reads as before, but the address a
store goes to and the pushed bytes (R35, R65, R191). -/
def Obligations.FrameMemory : Prop :=
  ∀ (i : Instr) (s t : State), exec i s = .next t → (∀ a ∈ accessAddrs i s, quiet a = true) →
    ∀ a : Word, backed a s = true → (∀ m, storeMode i = some m → a ≠ effAddr m s) →
      (∀ k, k < pushes i → a ≠ BitVec.ofNat 16 (0x100 + (s.sp - BitVec.ofNat 8 k).toNat)) → peek a t = peek a s

/-- An instruction whose accesses are quiet touches no switch, no keyboard latch, no drive, no draw and no event (R65, R90, R467). -/
def Obligations.FrameDevices : Prop :=
  ∀ (i : Instr) (s t : State), exec i s = .next t → (∀ a ∈ accessAddrs i s, quiet a = true) →
    t.sw = s.sw ∧ t.kbd = s.kbd ∧ t.disk = s.disk ∧ t.draws = s.draws ∧ t.events = s.events

/-! The decoder. -/

/-- `RamBank` (R69 to R76): which array serves a read and which takes a write below 0xC000. -/
def Obligations.RamBanks : Prop :=
  ∀ (a : Word) (v : Byte) (s : State), a.toNat < 0xC000 →
    let n := a.toNat
    let text := 0x0400 ≤ n ∧ n < 0x0800 ∧ s.sw.store80 = true
    let hires := 0x2000 ≤ n ∧ n < 0x4000 ∧ s.sw.store80 = true ∧ s.sw.hires = true
    let served := fun (r w : Bool) =>
      read a s = .ok (s.ram.byteAt (ramArray r) n) s ∧ write a v s = .ok () { s with ram := s.ram.store (ramArray w) n v }
    (n < 0x0200 → served s.sw.altzp s.sw.altzp) ∧
    (text → served s.sw.page2 s.sw.page2) ∧
    (hires → served s.sw.page2 s.sw.page2) ∧
    (0x0200 ≤ n → ¬ text → ¬ hires → served s.sw.ramrd s.sw.ramwrt)

/-- The language card and the fixed ROM above 0xD000 (R78, R80, R81, R83). -/
def Obligations.LanguageCard : Prop :=
  ∀ (a : Word) (v : Byte) (s : State), 0xD000 ≤ a.toNat →
    (s.sw.lcread = true → read a s = .ok (s.ram.byteAt (lcCell s.sw a).1 (lcCell s.sw a).2) s) ∧
    (s.sw.lcread = false → read a s = .ok (s.rom.byteAt (a.toNat - 0xC000)) s) ∧
    (s.sw.lcwrite = true → write a v s = .ok () { s with ram := s.ram.store (lcCell s.sw a).1 (lcCell s.sw a).2 v }) ∧
    (s.sw.lcwrite = false → write a v s = .ok () s)

/-- The slot windows, the expansion window and 0xCFFF (R84 to R88). -/
def Obligations.PeripheralRom : Prop :=
  ∀ (v : Byte) (s : State),
    (∀ (n : Nat) (off : Byte), 1 ≤ n → n ≤ 7 →
      let a : Word := BitVec.ofNat 16 (0xC000 + 0x100 * n + off.toNat)
      write a v s = .ok () s ∧
      (s.sw.intcxrom = true ∨ (n = 3 ∧ s.sw.slotc3rom = false) → read a s = .ok (s.rom.byteAt (0x100 * n + off.toNat)) s) ∧
      (s.sw.intcxrom = false → (n = 3 → s.sw.slotc3rom = true) →
        (∀ m, s.slotRom.slot n = some m → read a s = .ok (m.byteAt off.toNat) s) ∧
        (s.slotRom.slot n = none → read a s = .ok (floating s) s))) ∧
    (∀ off : Nat, off < 0x800 →
      let a : Word := BitVec.ofNat 16 (0xC800 + off)
      let after : State :=
        if off = 0x7FF then { s with disk := s.disk.setCurrent { s.disk.current with motor := false } } else s
      write a v s = .ok () after ∧
      (s.sw.intcxrom = true ∨ s.sw.slotc3rom = false → read a s = .ok (s.rom.byteAt (0x800 + off)) after) ∧
      (s.sw.intcxrom = false → s.sw.slotc3rom = true →
        (∀ m, s.expRom = some m → read a s = .ok (m.byteAt off) after) ∧
        (s.expRom = none → read a s = .ok (floating s) after)))

/-- A read returns the most recent write to the same cell, and a write leaves every other address alone; where the read and the write path
select different arrays, the read is unchanged (R77, R120). -/
def Obligations.ReadAfterWrite : Prop :=
  ∀ (a : Word) (v : Byte) (b : Bank) (s : State), s.Inv → sink s.sw a = .ram b →
    ∃ t, write a v s = .ok () t ∧
      (source s.sw a = .ram b → read a t = .ok v t) ∧
      (source s.sw a ≠ .ram b → peek a t = peek a s) ∧
      ∀ a' : Word, a' ≠ a → peek a' t = peek a' s

/-- An access changes no register, no counter and no mode; a read changes no array; a quiet read changes nothing and can be repeated; a disk
access changes the disk controller only; and every access answers, at every address, but the shift at 0xC0EC with the current track past
the image (R60, R65, R430, R431, R467). -/
def Obligations.AccessKeeps : Prop :=
  (∀ (a : Word) (v : Byte) (s t : State), read a s = .ok v t →
    t = { s with sw := t.sw, kbd := t.kbd, disk := t.disk, draws := t.draws, events := t.events }) ∧
  (∀ (a : Word) (v : Byte) (s t : State), write a v s = .ok () t →
    t = { s with ram := t.ram, sw := t.sw, kbd := t.kbd, disk := t.disk, draws := t.draws, events := t.events }) ∧
  (∀ (a : Word) (s : State), quiet a = true → ∃ v, read a s = .ok v s) ∧
  (∀ (off : Nat) (s : State), off < 16 →
    (∃ w k, read (BitVec.ofNat 16 (0xC0E0 + off)) s = .ok w { s with disk := k }) ∨
      (off = 0xC ∧ 35 ≤ s.disk.current.track)) ∧
  (∀ (off : Nat) (v : Byte) (s : State), off < 16 →
    (∃ k, write (BitVec.ofNat 16 (0xC0E0 + off)) v s = .ok () { s with disk := k }) ∨
      (off = 0xC ∧ 35 ≤ s.disk.current.track)) ∧
  (∀ (a : Word) (s : State), (∃ w t, read a s = .ok w t) ∨ (a = 0xC0EC ∧ 35 ≤ s.disk.current.track)) ∧
  (∀ (a : Word) (v : Byte) (s : State), (∃ t, write a v s = .ok () t) ∨ (a = 0xC0EC ∧ 35 ≤ s.disk.current.track))

/-! The soft switches. -/

/-- The eight flag pairs, the keyboard read of the same addresses, and the status reads (R93, R95, R97, R98). -/
def Obligations.FlagPairs : Prop :=
  ∀ (v : Byte) (s : State),
    (∀ on : Bool,
      let at_ : Word → Word := fun base => if on then base + 1 else base
      write (at_ 0xC000) v s = .ok () { s with sw := { s.sw with store80 := on } } ∧
      write (at_ 0xC002) v s = .ok () { s with sw := { s.sw with ramrd := on } } ∧
      write (at_ 0xC004) v s = .ok () { s with sw := { s.sw with ramwrt := on } } ∧
      write (at_ 0xC006) v s = .ok () { s with sw := { s.sw with intcxrom := on } } ∧
      write (at_ 0xC008) v s = .ok () { s with sw := { s.sw with altzp := on } } ∧
      write (at_ 0xC00A) v s = .ok () { s with sw := { s.sw with slotc3rom := on } } ∧
      write (at_ 0xC00C) v s = .ok () { s with sw := { s.sw with col80 := on } } ∧
      write (at_ 0xC00E) v s = .ok () { s with sw := { s.sw with altchar := on } }) ∧
    (∀ k : Nat, k < 16 → read (BitVec.ofNat 16 (0xC000 + k)) s = .ok s.kbd s) ∧
    (∀ k : Nat, 0x11 ≤ k → k < 0x20 → write (BitVec.ofNat 16 (0xC000 + k)) v s = .ok () s) ∧
    read 0xC011 s = .ok (flagByte s.sw.lcbank2) s ∧ read 0xC012 s = .ok (flagByte s.sw.lcread) s ∧
    read 0xC013 s = .ok (flagByte s.sw.ramrd) s ∧ read 0xC014 s = .ok (flagByte s.sw.ramwrt) s ∧
    read 0xC015 s = .ok (flagByte s.sw.intcxrom) s ∧ read 0xC016 s = .ok (flagByte s.sw.altzp) s ∧
    read 0xC017 s = .ok (flagByte s.sw.slotc3rom) s ∧ read 0xC018 s = .ok (flagByte s.sw.store80) s ∧
    read 0xC01A s = .ok (flagByte s.sw.text) s ∧ read 0xC01B s = .ok (flagByte s.sw.mixed) s ∧
    read 0xC01C s = .ok (flagByte s.sw.page2) s ∧ read 0xC01D s = .ok (flagByte s.sw.hires) s ∧
    read 0xC01E s = .ok (flagByte s.sw.altchar) s ∧ read 0xC01F s = .ok (flagByte s.sw.col80) s

/-- The language-card switches, by the bits of the address (R110 to R112, R114). -/
def Obligations.LanguageCardSwitches : Prop :=
  ∀ (k : BitVec 4) (v : Byte) (s : State),
    let a : Word := 0xC080 + k.setWidth 16
    let odd := k.getLsbD 0
    let sw : Switches := { s.sw with
      lcbank2 := !k.getLsbD 3
      lcread := k.getLsbD 0 == k.getLsbD 1
      lcwrite := if odd then s.sw.lcwrite || s.sw.lcpre else false }
    read a s = .ok (floating s) { s with sw := { sw with lcpre := odd } } ∧
    write a v s = .ok () { s with sw := { sw with lcpre := false } }

/-- The two-access property (R115): with LCPRE = 0 one access never sets LCWRITE; a read of a write-enabling address followed by a read or a
write of one sets it; an access elsewhere leaves LCPRE and LCWRITE alone. -/
def Obligations.TwoAccessProperty : Prop :=
  (∀ (k : BitVec 4) (v : Byte) (s t : State), s.sw.lcpre = false → s.sw.lcwrite = false →
    ((∃ w, read (0xC080 + k.setWidth 16) s = .ok w t) ∨ write (0xC080 + k.setWidth 16) v s = .ok () t) → t.sw.lcwrite = false) ∧
  (∀ (k k' : BitVec 4) (v w w' : Byte) (s t u : State), k.getLsbD 0 = true → k'.getLsbD 0 = true →
    read (0xC080 + k.setWidth 16) s = .ok w t →
    (read (0xC080 + k'.setWidth 16) t = .ok w' u ∨ write (0xC080 + k'.setWidth 16) v t = .ok () u) → u.sw.lcwrite = true) ∧
  (∀ (a : Word) (v w : Byte) (s t : State), (a.toNat < 0xC080 ∨ 0xC090 ≤ a.toNat) →
    (read a s = .ok w t ∨ write a v s = .ok () t) → t.sw.lcpre = s.sw.lcpre ∧ t.sw.lcwrite = s.sw.lcwrite)

/-- The display switches and the annunciators with their gate, alike for reads and writes (R101, R102, R105, R106). The event list that holds
`DisplayInvalidate` is the model's own field (log 11). -/
def Obligations.DisplayAndAnnunciators : Prop :=
  ∀ (v : Byte) (on : Bool) (s : State),
    let at_ : Word → Word := fun base => if on then base + 1 else base
    let touches := fun (a : Word) (t : State) => read a s = .ok (floating s) t ∧ write a v s = .ok () t
    let shown := fun (a : Word) (sw : Switches) => touches a { s with sw := sw, events := .displayInvalidate a :: s.events }
    shown (at_ 0xC050) { s.sw with text := on } ∧ shown (at_ 0xC052) { s.sw with mixed := on } ∧
    shown (at_ 0xC054) { s.sw with page2 := on } ∧ shown (at_ 0xC056) { s.sw with hires := on } ∧
    (s.sw.ioudis = false →
      touches (at_ 0xC058) { s with sw := { s.sw with an0 := on } } ∧ touches (at_ 0xC05A) { s with sw := { s.sw with an1 := on } } ∧
      touches (at_ 0xC05C) { s with sw := { s.sw with an2 := on } } ∧
      touches (at_ 0xC05E) { s with sw := { s.sw with an3 := on, dhires := !on } }) ∧
    (s.sw.ioudis = true →
      touches (at_ 0xC058) s ∧ touches (at_ 0xC05A) s ∧ touches (at_ 0xC05C) s ∧ touches (at_ 0xC05E) s)

/-- The keyboard strobe, the vertical-blank and input reads (whatever the host answers: the draws are free values, log 6), the paddle reset,
the I/O-disable switch, the three audio addresses, whichever they are (OPEN, a free value, log 5), and the addresses no entry lists (R96, R100,
R104, R107 to R109, R117). The event list is the model's own field (log 11). -/
def Obligations.KeyboardAndInputs : Prop :=
  ∀ (v : Byte) (s : State),
    read 0xC010 s = .ok (s.kbd &&& 0x7F) { s with kbd := s.kbd &&& 0x7F } ∧ write 0xC010 v s = .ok () s ∧
    read 0xC019 s = .ok (flagByte (Config.vblankDraw s.draws)) { s with draws := s.draws + 1 } ∧
    (∀ a ∈ ([0xC061, 0xC062, 0xC064, 0xC065] : List Word),
      read a s = .ok (Config.inputDraw s.draws a) { s with draws := s.draws + 1 } ∧ write a v s = .ok () s) ∧
    read 0xC070 s = .ok (floating s) { s with events := .paddleReset :: s.events } ∧
    write 0xC070 v s = .ok () { s with events := .paddleReset :: s.events } ∧
    read 0xC07E s = .ok (flagByte s.sw.ioudis) s ∧ write 0xC07E v s = .ok () { s with sw := { s.sw with ioudis := true } } ∧
    read 0xC07F s = .ok (flagByte s.sw.dhires) s ∧ write 0xC07F v s = .ok () { s with sw := { s.sw with ioudis := false } } ∧
    (Config.audioToggleAddrs.length = 3 ∧ Config.audioToggleAddrs.Nodup ∧ ∀ a ∈ Config.audioToggleAddrs,
      0xC000 ≤ a.toNat ∧ a.toNat < 0xC100 ∧
      read a s = .ok (floating s) { s with events := .audioToggle a :: s.events } ∧
      write a v s = .ok () { s with events := .audioToggle a :: s.events }) ∧
    (∀ n : Nat, (0x20 ≤ n ∧ n < 0x50) ∨ n = 0x60 ∨ n = 0x63 ∨ (0x66 ≤ n ∧ n < 0x70) ∨ (0x71 ≤ n ∧ n < 0x7E) ∨
        (0x90 ≤ n ∧ n < 0xE0) ∨ (0xF0 ≤ n ∧ n < 0x100) →
      BitVec.ofNat 16 (0xC000 + n) ∉ Config.audioToggleAddrs →
      read (BitVec.ofNat 16 (0xC000 + n)) s = .ok (floating s) s ∧ write (BitVec.ofNat 16 (0xC000 + n)) v s = .ok () s)

/-! The disk controller. -/

/-- The phase switches and the head (R453 to R457, R460). -/
def Obligations.Stepper : Prop :=
  ∀ (k : Nat) (on : Bool) (v : Byte) (s : State), k < 4 →
    let a : Word := BitVec.ofNat 16 (0xC0E0 + 2 * k + bit on)
    let d := s.disk.current
    ∃ d' : Drive,
      read a s = .ok (floating s) { s with disk := s.disk.setCurrent d' } ∧
      write a v s = .ok () { s with disk := s.disk.setCurrent d' } ∧
      (d.ph.getLsbD k = on → d' = d) ∧
      (d.ph.getLsbD k ≠ on →
        d'.h2 = d.h1 ∧ d'.h1 = d.ph ∧ (∀ j, j < 4 → d'.ph.getLsbD j = if j = k then on else d.ph.getLsbD j) ∧
        d'.halftrack =
          (if on = false then d.halftrack
           else if d.h1.getLsbD ((k + 1) % 4) then d.halftrack - 1
           else if d.h1.getLsbD ((k + 3) % 4) then min 140 (d.halftrack + 1)
           else d.halftrack) ∧
        d'.track = (d'.halftrack + 1) / 2 ∧
        d'.data = d.data ∧ d'.readonly = d.readonly ∧ d'.motor = d.motor ∧ d'.writeMode = d.writeMode ∧ d'.nibble = d.nibble)

/-- The motor, the drive select, the latch, the read mode with write protect, and the write mode (R461, R462, R464 to R466). -/
def Obligations.DriveControls : Prop :=
  ∀ (v : Byte) (s : State),
    let d := s.disk.current
    let touches := fun (a : Word) (k : Disk) =>
      read a s = .ok (floating s) { s with disk := k } ∧ write a v s = .ok () { s with disk := k }
    let running := s.disk.drv0.motor || s.disk.drv1.motor
    touches 0xC0E8 (s.disk.setCurrent { d with motor := false }) ∧
    touches 0xC0E9 (s.disk.setCurrent { d with motor := true }) ∧
    touches 0xC0EA { s.disk with
      cur := .zero, drv0 := { s.disk.drv0 with motor := running }, drv1 := { s.disk.drv1 with motor := false } } ∧
    touches 0xC0EB { s.disk with
      cur := .one, drv0 := { s.disk.drv0 with motor := false }, drv1 := { s.disk.drv1 with motor := running } } ∧
    read 0xC0ED s = .ok (floating s) s ∧ write 0xC0ED v s = .ok () { s with disk := { s.disk with latch := v } } ∧
    read 0xC0EE s = .ok (flagByte d.readonly) { s with disk := s.disk.setCurrent { d with writeMode := false, motor := false } } ∧
    write 0xC0EE v s = .ok () { s with disk := s.disk.setCurrent { d with writeMode := false } } ∧
    touches 0xC0EF (s.disk.setCurrent { d with writeMode := true })

/-- The shift at 0xC0EC (R463), and the model fault when the track is past the image (R431), also of a load that reads it. -/
def Obligations.ShiftLatch : Prop :=
  ∀ (v : Byte) (s : State),
    let d := s.disk.current
    let i := d.track * 0x1A00 + d.nibble
    let next := (d.nibble + 1) % 0x1A00
    (35 ≤ d.track →
      read 0xC0EC s = .stop (.diskTrackBeyondImage s.disk.cur d.track) ∧
      write 0xC0EC v s = .stop (.diskTrackBeyondImage s.disk.cur d.track) ∧
      exec (.ldaAbs 0xC0EC) s = .fault (.diskTrackBeyondImage s.disk.cur d.track)) ∧
    (d.track < 35 → d.writeMode = true →
      let k := s.disk.setCurrent { d with data := d.data.store i s.disk.latch, nibble := next }
      read 0xC0EC s = .ok s.disk.latch { s with disk := k } ∧ write 0xC0EC v s = .ok () { s with disk := k }) ∧
    (d.track < 35 → d.writeMode = false →
      let k := { s.disk.setCurrent { d with nibble := next } with latch := d.data.byteAt i }
      read 0xC0EC s = .ok (d.data.byteAt i) { s with disk := k } ∧ write 0xC0EC v s = .ok () { s with disk := k })

/-! Reset, interrupts, host calls, and the invariant. -/

/-- `reset()` (R500, R501): PC, SP, I, the mode and `ticks`, and nothing else. -/
def Obligations.Reset : Prop :=
  ∀ s : State, resetCall s = .next { s with
    pc := word (peek 0xFFFC s) (peek 0xFFFD s), sp := 0xFF, p := { s.p with i := true }, mode := .running, ticks := s.ticks + 7 }

/-- `irq()` and `nmi()` (R434 to R436). -/
def Obligations.Interrupts : Prop :=
  ∀ s : State,
    (s.mode = .stopped → irqCall s = .next s ∧ nmiCall s = .next s) ∧
    (s.mode ≠ .stopped → s.p.i = true → irqCall s = .next s) ∧
    (s.mode ≠ .stopped → s.p.i = false →
      irqCall s = .next { entered 0xFFFE s.pc false s with ticks := s.ticks + 7, mode := .running }) ∧
    (s.mode ≠ .stopped → nmiCall s = .next { entered 0xFFFA s.pc false s with ticks := s.ticks + 7, mode := .running })

/-- The keyboard write (log 16), the read-only and mode setters (log 17), the image load and save (log 17), and the host's read and write of
the whole state (log 18): what they change and hand back (R448, R468 to R471). A load fails, and changes nothing, when there is no file or the
file is not exactly 232,960 bytes long; its answer says which. -/
def Obligations.HostWrites : Prop :=
  (∀ (key : BitVec 7) (s : State), ∃ k : Byte,
    pressKey key s = { s with kbd := k } ∧ k.getLsbD 7 = true ∧ k.toNat % 128 = key.toNat) ∧
  (∀ (d : DriveId) (on : Bool) (s : State),
    (setReadonly d on s).disk.drive d = { s.disk.drive d with readonly := on } ∧
    setReadonly d on s = { s with disk := s.disk.setDrive d { s.disk.drive d with readonly := on } }) ∧
  (∀ (d : DriveId) (bytes : List Byte) (s : State), bytes.length = 232960 →
    loadSucceeds (some bytes) = true ∧ ∃ m : Memory,
      loadImage d (some bytes) s = { s with disk := s.disk.setDrive d { s.disk.drive d with data := m } } ∧
      ∀ j : Nat, j < 232960 → m.byteAt j = bytes.getD j 0) ∧
  (∀ (d : DriveId) (s : State), loadSucceeds none = false ∧ loadImage d none s = s) ∧
  (∀ (d : DriveId) (bytes : List Byte) (s : State), bytes.length ≠ 232960 →
    loadSucceeds (some bytes) = false ∧ loadImage d (some bytes) s = s) ∧
  (∀ (d : DriveId) (file : Option (List Byte)) (s : State), loadSucceeds file = false → loadImage d file s = s) ∧
  (∀ (key : BitVec 7) (s : State), hostCall (.pressKey key) s = .next (pressKey key s)) ∧
  (∀ (d : DriveId) (on : Bool) (s : State), hostCall (.setReadonly d on) s = .next (setReadonly d on s)) ∧
  (∀ (d : DriveId) (file : Option (List Byte)) (s t : State),
    hostCall (.loadImage d file) s = .next (loadImage d file s) ∧
    hostAnswer (.loadImage d file) s t = .loaded (loadSucceeds file)) ∧
  (∀ (d : DriveId) (s : State),
    ((s.disk.drive d).readonly = true → saveImage d s = none) ∧
    ((s.disk.drive d).readonly = false → ∃ bytes, saveImage d s = some bytes ∧ bytes.length = 232960 ∧
      ∀ j : Nat, j < 232960 → bytes.getD j 0 = (s.disk.drive d).data.byteAt j)) ∧
  (∀ (on : Bool) (s : State),
    (s.mode = .running ∨ s.mode = .singleStep →
      hostCall (.setSingleStep on) s = .next { s with mode := if on then .singleStep else .running }) ∧
    (s.mode = .waiting ∨ s.mode = .stopped → hostCall (.setSingleStep on) s = .next s)) ∧
  (∀ (d : DriveId) (s : State),
    hostCall (.saveImage d) s = .next s ∧ hostAnswer (.saveImage d) s s = .saved (saveImage d s)) ∧
  (∀ s : State, hostCall .readState s = .next s ∧ hostAnswer .readState s s = .state s) ∧
  (∀ u s : State, hostCall (.writeState u) s = .next { u with draws := s.draws, events := s.events }) ∧
  (∀ s : State, hostCall (.writeState s) s = .next s)

/-- The state right after reset: what R500 and R503 state, and for the OPEN parameters the model's choices (logs 1 to 4); it is `reset()` of
power-on, and it meets the invariant. -/
def Obligations.ResetState : Prop :=
  resetCall State.powerOn = .next State.reset ∧ State.reset.Inv ∧
  State.reset.sp = 0xFF ∧ State.reset.p.i = true ∧ State.reset.mode = .running ∧ State.reset.ticks = 7 ∧
  State.reset.sw = Switches.powerOn ∧ State.reset.kbd = 0x00 ∧ State.reset.disk = Disk.powerOn

/-- Every step keeps the invariant: every array in its canonical form and inside its size, both heads within 0 to 140 with the track that
belongs to them, both cursors inside the track (R35, R39, R455). -/
def Obligations.StepKeepsInvariant : Prop := ∀ s t : State, s.Inv → step s = .next t → t.Inv

/-- Every host call keeps the invariant, `execute(n)` for every n among them (R471); a state the host writes must meet it itself: what
does not is no state of the machine (R35, R39, R448). -/
def Obligations.HostCallsKeepInvariant : Prop :=
  ∀ (c : HostCall) (s t : State), s.Inv → (∀ u, c = .writeState u → u.Inv) → hostCall c s = .next t → t.Inv
end

