-- ==== Sys2Proof/Laws/Memory.lean ====
section
/-! SUPPORT. Laws of the byte arrays: what a store changes, and that every operation keeps the canonical form and the size. -/

namespace Sys2Proof.Machine

theorem Memory.byteAt_of_wfFrom_lt {m : Memory} {lo i : Nat} (h : m.wfFrom lo = true) (hi : i < lo) : m.byteAt i = unlisted := by
  induction m generalizing lo with
  | nil => rfl
  | cons c m ih =>
    obtain ⟨k, w⟩ := c
    simp only [Memory.wfFrom, Bool.and_eq_true, decide_eq_true_eq] at h
    have hne : k ≠ i := by omega
    simp only [Memory.byteAt, hne, if_false]
    exact ih h.2 (by omega)

theorem Memory.wfFrom_mono {m : Memory} {lo lo' : Nat} (h : m.wfFrom lo = true) (hl : lo' ≤ lo) : m.wfFrom lo' = true := by
  cases m with
  | nil => rfl
  | cons c m =>
    obtain ⟨k, w⟩ := c
    simp only [Memory.wfFrom, Bool.and_eq_true, decide_eq_true_eq] at h ⊢
    exact ⟨⟨by omega, h.1.2⟩, h.2⟩

/-- A store keeps the canonical form from a lower bound on. -/
theorem Memory.wfFrom_store {m : Memory} {lo i : Nat} (v : Byte) (h : m.wfFrom lo = true) (hi : lo ≤ i) :
    (m.store i v).wfFrom lo = true := by
  induction m generalizing lo with
  | nil =>
    simp only [Memory.store]
    split <;> simp_all [Memory.wfFrom]
  | cons c m ih =>
    obtain ⟨k, w⟩ := c
    simp only [Memory.wfFrom, Bool.and_eq_true, decide_eq_true_eq] at h
    simp only [Memory.store]
    by_cases hik : i < k
    · by_cases hv : v = unlisted
      · simp [hik, hv, Memory.wfFrom, h]
      · simp only [hik, hv, if_true, if_false, Memory.wfFrom, Bool.and_eq_true, decide_eq_true_eq, bne_iff_ne, ne_eq,
          not_false_eq_true, and_true]
        exact ⟨hi, ⟨by omega, by simpa using h.1.2⟩, h.2⟩
    · by_cases hek : i = k
      · subst hek
        by_cases hv : v = unlisted
        · simp only [Nat.lt_irrefl, if_false, hv, if_true]
          exact Memory.wfFrom_mono h.2 (by omega)
        · simp [hv, Memory.wfFrom, h.2, hi]
      · simp only [hik, hek, if_false, Memory.wfFrom, Bool.and_eq_true, decide_eq_true_eq]
        exact ⟨h.1, ih h.2 (by omega)⟩

/-- A store keeps the canonical form. -/
theorem Memory.wf_store {m : Memory} (i : Nat) (v : Byte) (h : m.wf = true) : (m.store i v).wf = true :=
  Memory.wfFrom_store v h (Nat.zero_le i)

/-- A read after a store to the same index gives the byte stored. -/
theorem Memory.byteAt_store_same {m : Memory} (i : Nat) (v : Byte) (h : m.wf = true) : (m.store i v).byteAt i = v := by
  suffices H : ∀ lo, m.wfFrom lo = true → lo ≤ i → (m.store i v).byteAt i = v from H 0 h (Nat.zero_le i)
  clear h
  induction m with
  | nil =>
    intro lo _ _
    simp only [Memory.store]
    split <;> simp_all [Memory.byteAt]
  | cons c m ih =>
    obtain ⟨k, w⟩ := c
    intro lo h hi
    simp only [Memory.wfFrom, Bool.and_eq_true, decide_eq_true_eq] at h
    simp only [Memory.store]
    by_cases hik : i < k
    · by_cases hv : v = unlisted
      · have hki : k ≠ i := by omega
        simp only [hik, hv, if_true, Memory.byteAt, hki, if_false]
        exact Memory.byteAt_of_wfFrom_lt h.2 (by omega)
      · simp [hik, hv, Memory.byteAt]
    · by_cases hek : i = k
      · subst hek
        by_cases hv : v = unlisted
        · simp only [Nat.lt_irrefl, if_false, hv, if_true]
          exact Memory.byteAt_of_wfFrom_lt h.2 (by omega)
        · simp [hv, Memory.byteAt]
      · have hki : k ≠ i := fun e => hek e.symm
        simp only [hik, hek, if_false, Memory.byteAt, hki]
        exact ih _ h.2 (by omega)

/-- A store leaves every other index alone. -/
theorem Memory.byteAt_store_other (m : Memory) {i j : Nat} (v : Byte) (h : j ≠ i) : (m.store i v).byteAt j = m.byteAt j := by
  induction m with
  | nil =>
    simp only [Memory.store]
    split
    · rfl
    · simp [Memory.byteAt, Ne.symm h]
  | cons c m ih =>
    obtain ⟨k, w⟩ := c
    simp only [Memory.store]
    split
    · split
      · rfl
      · simp [Memory.byteAt, Ne.symm h]
    · split
      · rename_i hek
        subst hek
        split <;> simp [Memory.byteAt, Ne.symm h]
      · simp only [Memory.byteAt, ih]

theorem Memory.all_store {m : Memory} {n i : Nat} (v : Byte) (h : m.all (fun c => decide (c.1 < n)) = true) (hi : i < n) :
    (m.store i v).all (fun c => decide (c.1 < n)) = true := by
  induction m with
  | nil =>
    simp only [Memory.store]
    split <;> simp [hi]
  | cons c m ih =>
    obtain ⟨k, w⟩ := c
    simp only [List.all_cons, Bool.and_eq_true, decide_eq_true_eq] at h
    have hv : ∀ w' : Byte, ((i, w') :: m).all (fun c => decide (c.1 < n)) = true := fun w' => by
      simp only [List.all_cons, Bool.and_eq_true, decide_eq_true_eq]
      exact ⟨hi, h.2⟩
    have hk : ((k, w) :: m).all (fun c => decide (c.1 < n)) = true := by
      simp only [List.all_cons, Bool.and_eq_true, decide_eq_true_eq]
      exact h
    simp only [Memory.store]
    split
    · split
      · exact hk
      · simp only [List.all_cons, Bool.and_eq_true, decide_eq_true_eq]
        exact ⟨hi, h⟩
    · split
      · split
        · exact h.2
        · exact hv v
      · simp only [List.all_cons, Bool.and_eq_true, decide_eq_true_eq]
        exact ⟨h.1, ih h.2⟩

/-- A store inside an array keeps its form and its size. -/
theorem Memory.fits_store {m : Memory} {n i : Nat} (v : Byte) (h : m.fits n = true) (hi : i < n) : (m.store i v).fits n = true := by
  simp only [Memory.fits, Bool.and_eq_true] at h ⊢
  exact ⟨Memory.wf_store i v h.1, Memory.all_store v h.2 hi⟩

theorem Memory.wf_of_fits {m : Memory} {n : Nat} (h : m.fits n = true) : m.wf = true := by
  simp only [Memory.fits, Bool.and_eq_true] at h
  exact h.1

theorem Memory.ofBytesFrom_fits (bs : List Byte) (i n : Nat) (h : i + bs.length ≤ n) :
    (Memory.ofBytesFrom i bs).wfFrom i = true ∧ (Memory.ofBytesFrom i bs).all (fun c => decide (c.1 < n)) = true := by
  induction bs generalizing i with
  | nil => exact ⟨rfl, rfl⟩
  | cons b bs ih =>
    simp only [List.length_cons] at h
    obtain ⟨h1, h2⟩ := ih (i + 1) (by omega)
    by_cases hb : b = unlisted
    · simp only [Memory.ofBytesFrom, hb, if_true]
      exact ⟨Memory.wfFrom_mono h1 (by omega), h2⟩
    · simp only [Memory.ofBytesFrom, hb, if_false, Memory.wfFrom, Bool.and_eq_true, decide_eq_true_eq, List.all_cons]
      exact ⟨⟨⟨Nat.le_refl i, by simpa using hb⟩, h1⟩, by omega, h2⟩

/-- Loading bytes gives an array in canonical form that holds nothing past them. -/
theorem Memory.ofBytes_fits (bs : List Byte) (n : Nat) (h : bs.length ≤ n) : (Memory.ofBytes bs).fits n = true := by
  obtain ⟨h1, h2⟩ := Memory.ofBytesFrom_fits bs 0 n (by omega)
  simp only [Memory.fits, Memory.wf, Memory.ofBytes, Bool.and_eq_true]
  exact ⟨h1, h2⟩

theorem Memory.byteAt_ofBytesFrom (bs : List Byte) (i j : Nat) :
    (Memory.ofBytesFrom i bs).byteAt (i + j) = bs.getD j unlisted := by
  induction bs generalizing i j with
  | nil => simp [Memory.ofBytesFrom, Memory.byteAt]
  | cons b bs ih =>
    cases j with
    | zero =>
      by_cases hb : b = unlisted
      · have h := (Memory.ofBytesFrom_fits bs (i + 1) (i + 1 + bs.length) (Nat.le_refl _)).1
        simp only [Memory.ofBytesFrom, hb, if_true, Nat.add_zero, List.getD_cons_zero]
        exact Memory.byteAt_of_wfFrom_lt h (by omega)
      · simp [Memory.ofBytesFrom, hb, Memory.byteAt]
    | succ j =>
      have hne : i ≠ i + (j + 1) := by omega
      have e : i + (j + 1) = i + 1 + j := by omega
      by_cases hb : b = unlisted
      · simp only [Memory.ofBytesFrom, hb, if_true, List.getD_cons_succ]
        rw [e]
        exact ih (i + 1) j
      · simp only [Memory.ofBytesFrom, hb, if_false, Memory.byteAt, hne, List.getD_cons_succ]
        rw [e]
        exact ih (i + 1) j

/-- Loading bytes puts byte `j` at index `j`. -/
theorem Memory.byteAt_ofBytes (bs : List Byte) (j : Nat) : (Memory.ofBytes bs).byteAt j = bs.getD j unlisted := by
  simpa [Memory.ofBytes] using Memory.byteAt_ofBytesFrom bs 0 j

/-! The writable arrays. -/

@[simp] theorem Ram.bank_setBank_same (r : Ram) (b : Bank) (m : Memory) : (r.setBank b m).bank b = m := by
  cases b <;> rfl

@[simp] theorem Ram.bank_setBank_other (r : Ram) {b b' : Bank} (m : Memory) (h : b' ≠ b) : (r.setBank b m).bank b' = r.bank b' := by
  cases b <;> cases b' <;> first | rfl | exact absurd rfl h

theorem Ram.bank_store_other (r : Ram) {b b' : Bank} (i : Nat) (v : Byte) (h : b' ≠ b) : (r.store b i v).bank b' = r.bank b' :=
  Ram.bank_setBank_other r _ h

/-- A store to an array leaves every other byte of every array alone. -/
theorem Ram.byteAt_store_other (r : Ram) {b b' : Bank} {i j : Nat} (v : Byte) (h : b' ≠ b ∨ j ≠ i) :
    (r.store b i v).byteAt b' j = r.byteAt b' j := by
  by_cases hb : b' = b
  · subst hb
    have hj : j ≠ i := h.resolve_left (fun hne => hne rfl)
    simp only [Ram.byteAt, Ram.store, Ram.bank_setBank_same]
    exact Memory.byteAt_store_other _ v hj
  · simp only [Ram.byteAt, Ram.store, Ram.bank_setBank_other r _ hb]

/-- A read after a store to the same byte of an array gives the byte stored. -/
theorem Ram.byteAt_store_same (r : Ram) (b : Bank) (i : Nat) (v : Byte) (h : (r.bank b).wf = true) : (r.store b i v).byteAt b i = v := by
  simp only [Ram.byteAt, Ram.store, Ram.bank_setBank_same]
  exact Memory.byteAt_store_same i v h

/-- A store inside an array keeps every array's form and size. -/
theorem Ram.fits_store (r : Ram) (b : Bank) (i : Nat) (v : Byte) (h : ∀ b, (r.bank b).fits b.size = true) (hi : i < b.size) :
    ∀ b', ((r.store b i v).bank b').fits b'.size = true := by
  intro b'
  by_cases hb : b' = b
  · subst hb
    simp only [Ram.store, Ram.bank_setBank_same]
    exact Memory.fits_store v (h b') hi
  · rw [Ram.bank_store_other r i v hb]
    exact h b'

end Sys2Proof.Machine
end

