-- ==== Sys2Proof/Laws/State.lean ====
section
/-! SUPPORT. One lemma per field and named update of the state, so that no later proof unfolds an update. -/

namespace Sys2Proof.Machine

@[simp] theorem State.tick_a (s : State) (n : Nat) : (s.tick n).a = s.a := rfl
@[simp] theorem State.tick_x (s : State) (n : Nat) : (s.tick n).x = s.x := rfl
@[simp] theorem State.tick_y (s : State) (n : Nat) : (s.tick n).y = s.y := rfl
@[simp] theorem State.tick_sp (s : State) (n : Nat) : (s.tick n).sp = s.sp := rfl
@[simp] theorem State.tick_pc (s : State) (n : Nat) : (s.tick n).pc = s.pc := rfl
@[simp] theorem State.tick_p (s : State) (n : Nat) : (s.tick n).p = s.p := rfl
@[simp] theorem State.tick_mode (s : State) (n : Nat) : (s.tick n).mode = s.mode := rfl
@[simp] theorem State.tick_ram (s : State) (n : Nat) : (s.tick n).ram = s.ram := rfl
@[simp] theorem State.tick_rom (s : State) (n : Nat) : (s.tick n).rom = s.rom := rfl
@[simp] theorem State.tick_slotRom (s : State) (n : Nat) : (s.tick n).slotRom = s.slotRom := rfl
@[simp] theorem State.tick_expRom (s : State) (n : Nat) : (s.tick n).expRom = s.expRom := rfl
@[simp] theorem State.tick_sw (s : State) (n : Nat) : (s.tick n).sw = s.sw := rfl
@[simp] theorem State.tick_kbd (s : State) (n : Nat) : (s.tick n).kbd = s.kbd := rfl
@[simp] theorem State.tick_disk (s : State) (n : Nat) : (s.tick n).disk = s.disk := rfl
@[simp] theorem State.tick_draws (s : State) (n : Nat) : (s.tick n).draws = s.draws := rfl
@[simp] theorem State.tick_events (s : State) (n : Nat) : (s.tick n).events = s.events := rfl
@[simp] theorem State.tick_ticks (s : State) (n : Nat) : (s.tick n).ticks = s.ticks + BitVec.ofNat 64 n := rfl

@[simp] theorem State.emit_a (s : State) (e : Event) : (s.emit e).a = s.a := rfl
@[simp] theorem State.emit_x (s : State) (e : Event) : (s.emit e).x = s.x := rfl
@[simp] theorem State.emit_y (s : State) (e : Event) : (s.emit e).y = s.y := rfl
@[simp] theorem State.emit_sp (s : State) (e : Event) : (s.emit e).sp = s.sp := rfl
@[simp] theorem State.emit_pc (s : State) (e : Event) : (s.emit e).pc = s.pc := rfl
@[simp] theorem State.emit_p (s : State) (e : Event) : (s.emit e).p = s.p := rfl
@[simp] theorem State.emit_ticks (s : State) (e : Event) : (s.emit e).ticks = s.ticks := rfl
@[simp] theorem State.emit_mode (s : State) (e : Event) : (s.emit e).mode = s.mode := rfl
@[simp] theorem State.emit_ram (s : State) (e : Event) : (s.emit e).ram = s.ram := rfl
@[simp] theorem State.emit_rom (s : State) (e : Event) : (s.emit e).rom = s.rom := rfl
@[simp] theorem State.emit_slotRom (s : State) (e : Event) : (s.emit e).slotRom = s.slotRom := rfl
@[simp] theorem State.emit_expRom (s : State) (e : Event) : (s.emit e).expRom = s.expRom := rfl
@[simp] theorem State.emit_sw (s : State) (e : Event) : (s.emit e).sw = s.sw := rfl
@[simp] theorem State.emit_kbd (s : State) (e : Event) : (s.emit e).kbd = s.kbd := rfl
@[simp] theorem State.emit_disk (s : State) (e : Event) : (s.emit e).disk = s.disk := rfl
@[simp] theorem State.emit_draws (s : State) (e : Event) : (s.emit e).draws = s.draws := rfl
@[simp] theorem State.emit_events (s : State) (e : Event) : (s.emit e).events = e :: s.events := rfl

@[simp] theorem charge_a (c : Cost) (x : Bool) (s : State) : (charge c x s).a = s.a := rfl
@[simp] theorem charge_x (c : Cost) (x : Bool) (s : State) : (charge c x s).x = s.x := rfl
@[simp] theorem charge_y (c : Cost) (x : Bool) (s : State) : (charge c x s).y = s.y := rfl
@[simp] theorem charge_sp (c : Cost) (x : Bool) (s : State) : (charge c x s).sp = s.sp := rfl
@[simp] theorem charge_pc (c : Cost) (x : Bool) (s : State) : (charge c x s).pc = s.pc := rfl
@[simp] theorem charge_p (c : Cost) (x : Bool) (s : State) : (charge c x s).p = s.p := rfl
@[simp] theorem charge_mode (c : Cost) (x : Bool) (s : State) : (charge c x s).mode = s.mode := rfl
@[simp] theorem charge_ram (c : Cost) (x : Bool) (s : State) : (charge c x s).ram = s.ram := rfl
@[simp] theorem charge_rom (c : Cost) (x : Bool) (s : State) : (charge c x s).rom = s.rom := rfl
@[simp] theorem charge_slotRom (c : Cost) (x : Bool) (s : State) : (charge c x s).slotRom = s.slotRom := rfl
@[simp] theorem charge_expRom (c : Cost) (x : Bool) (s : State) : (charge c x s).expRom = s.expRom := rfl
@[simp] theorem charge_sw (c : Cost) (x : Bool) (s : State) : (charge c x s).sw = s.sw := rfl
@[simp] theorem charge_kbd (c : Cost) (x : Bool) (s : State) : (charge c x s).kbd = s.kbd := rfl
@[simp] theorem charge_disk (c : Cost) (x : Bool) (s : State) : (charge c x s).disk = s.disk := rfl
@[simp] theorem charge_draws (c : Cost) (x : Bool) (s : State) : (charge c x s).draws = s.draws := rfl
@[simp] theorem charge_events (c : Cost) (x : Bool) (s : State) : (charge c x s).events = s.events := rfl
@[simp] theorem charge_ticks (c : Cost) (x : Bool) (s : State) :
    (charge c x s).ticks = s.ticks + BitVec.ofNat 64 (c.base + if c.pagePenalty && x then 1 else 0) := rfl

@[simp] theorem expansionOff_a (a : Word) (s : State) : (expansionOff a s).a = s.a := by
  simp only [expansionOff]; split <;> rfl
@[simp] theorem expansionOff_x (a : Word) (s : State) : (expansionOff a s).x = s.x := by
  simp only [expansionOff]; split <;> rfl
@[simp] theorem expansionOff_y (a : Word) (s : State) : (expansionOff a s).y = s.y := by
  simp only [expansionOff]; split <;> rfl
@[simp] theorem expansionOff_sp (a : Word) (s : State) : (expansionOff a s).sp = s.sp := by
  simp only [expansionOff]; split <;> rfl
@[simp] theorem expansionOff_pc (a : Word) (s : State) : (expansionOff a s).pc = s.pc := by
  simp only [expansionOff]; split <;> rfl
@[simp] theorem expansionOff_p (a : Word) (s : State) : (expansionOff a s).p = s.p := by
  simp only [expansionOff]; split <;> rfl
@[simp] theorem expansionOff_ticks (a : Word) (s : State) : (expansionOff a s).ticks = s.ticks := by
  simp only [expansionOff]; split <;> rfl
@[simp] theorem expansionOff_mode (a : Word) (s : State) : (expansionOff a s).mode = s.mode := by
  simp only [expansionOff]; split <;> rfl
@[simp] theorem expansionOff_ram (a : Word) (s : State) : (expansionOff a s).ram = s.ram := by
  simp only [expansionOff]; split <;> rfl
@[simp] theorem expansionOff_rom (a : Word) (s : State) : (expansionOff a s).rom = s.rom := by
  simp only [expansionOff]; split <;> rfl
@[simp] theorem expansionOff_slotRom (a : Word) (s : State) : (expansionOff a s).slotRom = s.slotRom := by
  simp only [expansionOff]; split <;> rfl
@[simp] theorem expansionOff_expRom (a : Word) (s : State) : (expansionOff a s).expRom = s.expRom := by
  simp only [expansionOff]; split <;> rfl
@[simp] theorem expansionOff_sw (a : Word) (s : State) : (expansionOff a s).sw = s.sw := by
  simp only [expansionOff]; split <;> rfl
@[simp] theorem expansionOff_kbd (a : Word) (s : State) : (expansionOff a s).kbd = s.kbd := by
  simp only [expansionOff]; split <;> rfl
@[simp] theorem expansionOff_draws (a : Word) (s : State) : (expansionOff a s).draws = s.draws := by
  simp only [expansionOff]; split <;> rfl
@[simp] theorem expansionOff_events (a : Word) (s : State) : (expansionOff a s).events = s.events := by
  simp only [expansionOff]; split <;> rfl

@[simp] theorem Status.setNZ_c (p : Status) (r : Byte) : (p.setNZ r).c = p.c := rfl
@[simp] theorem Status.setNZ_i (p : Status) (r : Byte) : (p.setNZ r).i = p.i := rfl
@[simp] theorem Status.setNZ_d (p : Status) (r : Byte) : (p.setNZ r).d = p.d := rfl
@[simp] theorem Status.setNZ_b (p : Status) (r : Byte) : (p.setNZ r).b = p.b := rfl
@[simp] theorem Status.setNZ_v (p : Status) (r : Byte) : (p.setNZ r).v = p.v := rfl
@[simp] theorem Status.setNZ_z (p : Status) (r : Byte) : (p.setNZ r).z = (r == 0) := rfl
@[simp] theorem Status.setNZ_n (p : Status) (r : Byte) : (p.setNZ r).n = r.msb := rfl

@[simp] theorem Disk.drive_setDrive_same (k : Disk) (n : DriveId) (d : Drive) : (k.setDrive n d).drive n = d := by cases n <;> rfl
@[simp] theorem Disk.drive_setDrive_other (k : Disk) (n : DriveId) (d : Drive) : (k.setDrive n d).drive n.other = k.drive n.other := by
  cases n <;> rfl
@[simp] theorem Disk.setDrive_cur (k : Disk) (n : DriveId) (d : Drive) : (k.setDrive n d).cur = k.cur := by cases n <;> rfl
@[simp] theorem Disk.setDrive_latch (k : Disk) (n : DriveId) (d : Drive) : (k.setDrive n d).latch = k.latch := by cases n <;> rfl
@[simp] theorem Disk.setCurrent_cur (k : Disk) (d : Drive) : (k.setCurrent d).cur = k.cur := Disk.setDrive_cur k k.cur d
@[simp] theorem Disk.setCurrent_latch (k : Disk) (d : Drive) : (k.setCurrent d).latch = k.latch := Disk.setDrive_latch k k.cur d
@[simp] theorem Disk.current_setCurrent (k : Disk) (d : Drive) : (k.setCurrent d).current = d := by
  obtain ⟨c, l, d0, d1⟩ := k
  cases c <;> rfl

/-! The result type of an access. -/

@[simp] theorem Res.bind_ok {α β : Type} (v : α) (s : State) (k : α → State → Res β) : (Res.ok v s).bind k = k v s := rfl
@[simp] theorem Res.bind_stop {α β : Type} (f : Fault) (k : α → State → Res β) : (Res.stop f).bind k = .stop f := rfl
@[simp] theorem Res.outcome_ok (s : State) : (Res.ok () s).outcome = .next s := rfl
@[simp] theorem Res.outcome_stop (f : Fault) : (Res.stop f : Res Unit).outcome = .fault f := rfl

/-- A sequence that answers a value went through both its parts. -/
theorem Res.bind_eq_ok {α β : Type} {r : Res α} {k : α → State → Res β} {w : β} {t : State} (h : r.bind k = .ok w t) :
    ∃ v s, r = .ok v s ∧ k v s = .ok w t := by
  cases r with
  | ok v s => exact ⟨v, s, rfl, h⟩
  | stop f => exact absurd h (by simp)

/-- An instruction that answers a next state ended there. -/
theorem Res.outcome_eq_next {r : Res Unit} {t : State} (h : r.outcome = .next t) : r = .ok () t := by
  cases r with
  | ok v s => cases h; rfl
  | stop f => exact absurd h (by simp)

/-! States that differ only in devices. -/

theorem SameButDevices.a_eq {s t : State} (h : SameButDevices s t) : t.a = s.a := by rw [h]
theorem SameButDevices.x_eq {s t : State} (h : SameButDevices s t) : t.x = s.x := by rw [h]
theorem SameButDevices.y_eq {s t : State} (h : SameButDevices s t) : t.y = s.y := by rw [h]
theorem SameButDevices.sp_eq {s t : State} (h : SameButDevices s t) : t.sp = s.sp := by rw [h]
theorem SameButDevices.pc_eq {s t : State} (h : SameButDevices s t) : t.pc = s.pc := by rw [h]
theorem SameButDevices.p_eq {s t : State} (h : SameButDevices s t) : t.p = s.p := by rw [h]
theorem SameButDevices.ticks_eq {s t : State} (h : SameButDevices s t) : t.ticks = s.ticks := by rw [h]
theorem SameButDevices.mode_eq {s t : State} (h : SameButDevices s t) : t.mode = s.mode := by rw [h]
theorem SameButDevices.ram_eq {s t : State} (h : SameButDevices s t) : t.ram = s.ram := by rw [h]
theorem SameButDevices.rom_eq {s t : State} (h : SameButDevices s t) : t.rom = s.rom := by rw [h]
theorem SameButDevices.slotRom_eq {s t : State} (h : SameButDevices s t) : t.slotRom = s.slotRom := by rw [h]
theorem SameButDevices.expRom_eq {s t : State} (h : SameButDevices s t) : t.expRom = s.expRom := by rw [h]

theorem SameButDevices.refl (s : State) : SameButDevices s s := rfl

theorem SameButDevices.trans {s t u : State} (h : SameButDevices s t) (h' : SameButDevices t u) : SameButDevices s u := by
  unfold SameButDevices at *
  rw [h', h]

end Sys2Proof.Machine
end

