-- ==== Sys2Proof/Laws/Access.lean ====
section
/-! SUPPORT. Laws of one access through the decoder, and of the stack: what a read or a write can do, said once. -/

namespace Sys2Proof.Machine

theorem quiet_low {a : Word} (h : a.toNat < 0xC000) : quiet a = true := by
  have h2 : a ≠ 0xCFFF := by
    intro e
    subst e
    exact absurd h (by decide)
  simp only [quiet, h, decide_true, Bool.true_or, Bool.true_and, bne_iff_ne]
  exact h2

theorem source_ne_switch {sw : Switches} {a : Word} (h : a.toNat < 0xC000 ∨ 0xC100 ≤ a.toNat) : source sw a ≠ .switch := by
  simp only [source]
  split
  · exact fun e => Source.noConfusion e
  · rw [if_neg (by omega)]
    repeat' split
    all_goals exact fun e => Source.noConfusion e

theorem source_low {sw : Switches} {a : Word} (h : a.toNat < 0xC000) : source sw a = .ram (ramBank sw a false) := by
  simp [source, h]

theorem sink_low {sw : Switches} {a : Word} (h : a.toNat < 0xC000) : sink sw a = .ram (ramBank sw a true) := by
  simp [sink, h]

theorem index_ramBank {sw : Switches} {a : Word} (w : Bool) : (ramBank sw a w).index a = a.toNat := by
  simp only [ramBank]
  repeat' split
  all_goals rfl

/-- A read outside 0xC000 to 0xC0FF gives the byte `peek` names, and at most stops a motor (R88). -/
theorem read_eq_peek {a : Word} {s : State} (h : a.toNat < 0xC000 ∨ 0xC100 ≤ a.toNat) : read a s = .ok (peek a s) (expansionOff a s) := by
  have hs := source_ne_switch (sw := s.sw) h
  unfold read
  generalize source s.sw a = k at hs ⊢
  cases k with
  | switch => exact absurd rfl hs
  | _ => rfl

/-- A read of a quiet address has no side effect (R65). -/
theorem read_quiet {a : Word} {s : State} (h : quiet a = true) : read a s = .ok (peek a s) s := by
  simp only [quiet, Bool.and_eq_true, Bool.or_eq_true, decide_eq_true_eq, bne_iff_ne, ne_eq] at h
  rw [read_eq_peek h.1]
  simp only [expansionOff, if_neg h.2]

theorem peek_low {a : Word} {s : State} (h : a.toNat < 0xC000) : peek a s = s.ram.byteAt (ramBank s.sw a false) a.toNat := by
  simp only [peek, source_low h, index_ramBank]

/-- A read below 0xC000 (R69). -/
theorem read_low {a : Word} {s : State} (h : a.toNat < 0xC000) : read a s = .ok (s.ram.byteAt (ramBank s.sw a false) a.toNat) s := by
  rw [read_quiet (quiet_low h), peek_low h]

/-- A write below 0xC000 (R69). -/
theorem write_low {a : Word} {v : Byte} {s : State} (h : a.toNat < 0xC000) :
    write a v s = .ok () { s with ram := s.ram.store (ramBank s.sw a true) a.toNat v } := by
  simp only [write, sink_low h, index_ramBank]

theorem ramBank_page01 {sw : Switches} {a : Word} (h : a.toNat < 0x200) (w : Bool) : ramBank sw a w = zeroBank sw := by
  simp [ramBank, zeroBank, h]

theorem toNat_zext16 (z : Byte) : (zext16 z).toNat = z.toNat := by
  have := z.isLt
  simp only [zext16, BitVec.toNat_setWidth]
  omega

theorem toNat_stackAddr (sp : Byte) : (stackAddr sp).toNat = 0x100 + sp.toNat := by
  revert sp
  decide +kernel

/-- A read of the zero page (R70). -/
theorem read_zeroPage (z : Byte) (s : State) : read (zext16 z) s = .ok (zeroPageByte z s) s := by
  have hz := z.isLt
  have ht := toNat_zext16 z
  rw [read_low (by omega), ramBank_page01 (by omega), ht]
  rfl

/-- A push (R230): one byte of the stack page, then SP. -/
theorem push_eq (v : Byte) (s : State) :
    push v s = .ok () { s with ram := s.ram.store (zeroBank s.sw) (0x100 + s.sp.toNat) v, sp := s.sp - 1 } := by
  have hz := s.sp.isLt
  have ht := toNat_stackAddr s.sp
  simp only [push]
  rw [write_low (by omega), ramBank_page01 (by omega), ht]
  rfl

/-- A pull (R230): SP, then one byte of the stack page. -/
theorem pull_eq (s : State) : pull s = .ok (stackByte (s.sp + 1) s) { s with sp := s.sp + 1 } := by
  have hz := (s.sp + 1).isLt
  have ht := toNat_stackAddr (s.sp + 1)
  simp only [pull]
  rw [read_low (by omega), ramBank_page01 (by omega), ht]
  rfl

/-- Pushing a word: the high byte, then the low byte. -/
theorem pushWord_eq (w : Word) (s : State) :
    pushWord w s = .ok ()
      { s with
        ram := (s.ram.store (zeroBank s.sw) (0x100 + s.sp.toNat) (hiByte w)).store (zeroBank s.sw) (0x100 + (s.sp - 1).toNat) (loByte w)
        sp := s.sp - 1 - 1 } := by
  simp only [pushWord, push_eq, Res.bind_ok]

/-- Pulling a word: the low byte, then the high byte. -/
theorem pullWord_eq (s : State) :
    pullWord s = .ok (joinBytes (stackByte (s.sp + 1) s) (stackByte (s.sp + 1 + 1) s)) { s with sp := s.sp + 1 + 1 } := by
  simp only [pullWord, pull_eq, Res.bind_ok]
  rfl

/-- A pointer of two quiet addresses. -/
theorem read16_quiet {lo hi : Word} {s : State} (h1 : quiet lo = true) (h2 : quiet hi = true) :
    read16 lo hi s = .ok (joinBytes (peek lo s) (peek hi s)) s := by
  simp only [read16, read_quiet h1, read_quiet h2, Res.bind_ok]

/-- A zero-page pointer (R183). -/
theorem zeroPagePointer_eq (z : Byte) (s : State) : zeroPagePointer z s = .ok (pointerAt z s) s := by
  simp only [zeroPagePointer, read16, read_zeroPage, Res.bind_ok]
  rfl

/-- Forming an effective address has no side effect and gives the closed formula (R179 to R185). -/
theorem effectiveAddress_eq (m : MemMode) (s : State) : effectiveAddress m s = .ok (effAddr m s, crosses m s) s := by
  cases m <;> simp only [effectiveAddress, zeroPagePointer_eq, Res.bind_ok, crossesPage, effAddr, crosses]

/-- The read of the vectors and other quiet words at a fixed place. -/
theorem enterHandler_eq (vector : Word) (brk : Bool) (s : State) (h1 : quiet vector = true) (h2 : quiet (vector + 1) = true) :
    ∃ r : Ram,
      r = ((s.ram.store (zeroBank s.sw) (0x100 + s.sp.toNat) (hiByte s.pc)).store (zeroBank s.sw) (0x100 + (s.sp - 1).toNat) (loByte s.pc)).store
            (zeroBank s.sw) (0x100 + (s.sp - 1 - 1).toNat) { s.p with b := brk }.pack ∧
      enterHandler vector brk s = .ok ()
        { s with
          ram := r, sp := s.sp - 1 - 1 - 1, p := { s.p with b := brk, i := true, d := false },
          pc := joinBytes (peek vector { s with ram := r }) (peek (vector + 1) { s with ram := r }) } := by
  refine ⟨_, rfl, ?_⟩
  simp only [enterHandler, pushWord_eq, push_eq, Res.bind_ok, read16_quiet h1 h2]
  rfl

/-! What an access can do. -/

theorem switchTouch_same (a : Word) (s : State) : SameButDevices s (switchTouch a s) := by
  unfold switchTouch
  generalize switchEntry a = e
  cases e with
  | display => exact rfl
  | annunciator => exact rfl
  | paddleReset => exact rfl
  | audio => exact rfl
  | _ => exact SameButDevices.refl s

theorem expansionOff_same (a : Word) (s : State) : SameButDevices s (expansionOff a s) := by
  unfold expansionOff
  by_cases h : a = 0xCFFF
  · rw [if_pos h]
    exact rfl
  · rw [if_neg h]
    exact rfl

theorem switchRead_same {a : Word} {s t : State} {v : Byte} (h : switchRead a s = .ok v t) : SameButDevices s t := by
  have ht := switchTouch_same a s
  unfold switchRead at h
  split at h
  case h_3 => split at h <;> (cases h; exact rfl)
  case h_8 =>
    split at h
    · cases h
      exact rfl
    · cases h
  all_goals
    cases h
    first
      | exact ht
      | exact rfl

theorem switchWrite_same {a : Word} {v : Byte} {s t : State} (h : switchWrite a v s = .ok () t) : SameButDevices s t := by
  have ht := switchTouch_same a s
  unfold switchWrite at h
  split at h
  case h_8 =>
    split at h
    · cases h
      exact rfl
    · cases h
  all_goals
    cases h
    first
      | exact ht
      | exact rfl

/-- A read changes nothing but devices (R65, R467): no register, no array. -/
theorem read_same {a : Word} {s t : State} {v : Byte} (h : read a s = .ok v t) : SameButDevices s t := by
  unfold read at h
  split at h
  · exact switchRead_same h
  · cases h
    exact expansionOff_same a s

/-- A write either stores one byte of one writable array and does nothing else, or changes nothing but devices. -/
theorem write_cases {a : Word} {v : Byte} {s t : State} (h : write a v s = .ok () t) :
    (∃ b, sink s.sw a = .ram b ∧ t = { s with ram := s.ram.store b (b.index a) v }) ∨
    ((∀ b, sink s.sw a ≠ .ram b) ∧ SameButDevices s t) := by
  unfold write at h
  generalize sink s.sw a = k at h ⊢
  cases k with
  | switch => exact .inr ⟨fun b => Sink.noConfusion, switchWrite_same h⟩
  | ram b =>
    cases h
    exact .inl ⟨b, rfl, rfl⟩
  | discard =>
    cases h
    exact .inr ⟨fun b => Sink.noConfusion, expansionOff_same a s⟩

theorem ramBank_size (sw : Switches) (a : Word) (w : Bool) : (ramBank sw a w).size = 0xC000 := by
  unfold ramBank
  dsimp only
  repeat' split
  all_goals rfl

theorem lcBank_index_lt (sw : Switches) (a : Word) : (lcBank sw a).index a < (lcBank sw a).size := by
  have ha := a.isLt
  unfold lcBank
  repeat' split
  all_goals
    unfold Bank.index Bank.size
    dsimp only
    omega

/-- A store goes to an index inside its array. -/
theorem sink_index_lt {sw : Switches} {a : Word} {b : Bank} (h : sink sw a = .ram b) : b.index a < b.size := by
  unfold sink at h
  dsimp only at h
  by_cases h1 : a.toNat < 0xC000
  · rw [if_pos h1] at h
    cases h
    rw [index_ramBank, ramBank_size]
    exact h1
  · rw [if_neg h1] at h
    by_cases h2 : a.toNat < 0xC100
    · rw [if_pos h2] at h
      cases h
    · rw [if_neg h2] at h
      by_cases h3 : a.toNat < 0xD000
      · rw [if_pos h3] at h
        cases h
      · rw [if_neg h3] at h
        by_cases h4 : sw.lcwrite = true
        · rw [if_pos h4] at h
          cases h
          exact lcBank_index_lt sw a
        · rw [if_neg h4] at h
          cases h

end Sys2Proof.Machine
end

