-- ==== Sys2Proof/Laws/Audio.lean ====
section
/-! SUPPORT. What holds of `AUDIO_TOGGLE_ADDRS` whichever addresses it holds: three different ones, all unlisted otherwise, each an entry of
its own. -/

namespace Sys2Proof.Machine

theorem drawAddrs_length (ks : List Nat) (l : List Word) : (Config.drawAddrs ks l).length = ks.length := by
  induction ks generalizing l with
  | nil => rfl
  | cons k ks ih => simp [Config.drawAddrs, ih]

/-- Where enough addresses are left, every one drawn is in the list. -/
theorem mem_of_mem_drawAddrs {a : Word} {ks : List Nat} {l : List Word} (hl : ks.length ≤ l.length) (h : a ∈ Config.drawAddrs ks l) :
    a ∈ l := by
  induction ks generalizing l with
  | nil => cases h
  | cons k ks ih =>
    have hk : k % l.length < l.length := Nat.mod_lt _ (by simp at hl; omega)
    rcases List.mem_cons.mp h with rfl | h
    · simp only [List.getD, List.getElem?_eq_getElem hk, Option.getD_some]
      exact List.getElem_mem hk
    · exact List.mem_of_mem_eraseIdx (ih (by rw [List.length_eraseIdx_of_lt hk]; simp at hl; omega) h)

/-- Where enough addresses are left, no address is drawn twice. -/
theorem drawAddrs_nodup {ks : List Nat} {l : List Word} (hl : ks.length ≤ l.length) (hd : l.Nodup) : (Config.drawAddrs ks l).Nodup := by
  induction ks generalizing l with
  | nil => exact List.nodup_nil
  | cons k ks ih =>
    have hk : k % l.length < l.length := Nat.mod_lt _ (by simp at hl; omega)
    have hl' : ks.length ≤ (l.eraseIdx (k % l.length)).length := by rw [List.length_eraseIdx_of_lt hk]; simp at hl; omega
    refine List.nodup_cons.mpr ⟨fun h => ?_, ih hl' (hd.eraseIdx _)⟩
    obtain ⟨i, hi, hne, he⟩ := List.mem_eraseIdx_iff_getElem.mp (mem_of_mem_drawAddrs hl' h)
    simp only [List.getD, List.getElem?_eq_getElem hk, Option.getD_some] at he
    have hp := List.pairwise_iff_getElem.mp hd
    rcases Nat.lt_or_gt_of_ne hne with hlt | hgt
    · exact hp _ _ hi hk hlt he
    · exact hp _ _ hk hi hgt he.symm

theorem unlistedAddrs_nodup : Config.unlistedAddrs.Nodup := by decide +kernel

theorem audioToggleAddrs_length : Config.audioToggleAddrs.length = 3 := drawAddrs_length _ _

theorem audioToggleAddrs_nodup : Config.audioToggleAddrs.Nodup := drawAddrs_nodup (by decide +kernel) unlistedAddrs_nodup

theorem unlisted_of_audio {a : Word} (h : a ∈ Config.audioToggleAddrs) : a ∈ Config.unlistedAddrs :=
  mem_of_mem_drawAddrs (by decide +kernel) h

/-- An address of the unlisted ranges lies in the soft-switch window and in none of the other entries. -/
theorem unlisted_facts : ∀ a ∈ Config.unlistedAddrs, (0xC000 ≤ a.toNat ∧ a.toNat < 0xC100) ∧
    (¬ (loByte a).toNat < 0x20 ∧ ¬ (0x50 ≤ (loByte a).toNat ∧ (loByte a).toNat < 0x60) ∧ a ∉ Config.inputReadAddrs ∧
      a ≠ Config.paddleResetAddr ∧ ¬ (0x7E ≤ (loByte a).toNat ∧ (loByte a).toNat < 0x90) ∧
      ¬ (0xE0 ≤ (loByte a).toNat ∧ (loByte a).toNat < 0xF0)) := by
  have h : Config.unlistedAddrs.all (fun a => decide ((0xC000 ≤ a.toNat ∧ a.toNat < 0xC100) ∧
    (¬ (loByte a).toNat < 0x20 ∧ ¬ (0x50 ≤ (loByte a).toNat ∧ (loByte a).toNat < 0x60) ∧ a ∉ Config.inputReadAddrs ∧
      a ≠ Config.paddleResetAddr ∧ ¬ (0x7E ≤ (loByte a).toNat ∧ (loByte a).toNat < 0x90) ∧
      ¬ (0xE0 ≤ (loByte a).toNat ∧ (loByte a).toNat < 0xF0)))) = true := by decide +kernel
  exact fun a ha => of_decide_eq_true (List.all_eq_true.mp h a ha)

/-- The entry of an address of the unlisted ranges. -/
theorem switchEntry_unlisted {a : Word} (h : a ∈ Config.unlistedAddrs) :
    switchEntry a = if isAudioToggle a then .audio else .unlisted := by
  obtain ⟨-, h1, h2, h3, h4, h5, h6⟩ := unlisted_facts a h
  unfold switchEntry
  dsimp only
  rw [if_neg (by omega), if_neg (by omega), if_neg (by omega), if_neg (by omega), if_neg (by omega), if_neg h3, if_neg h4,
    if_neg (by omega), if_neg (by omega), if_neg (by omega), if_neg h6]

/-- Every audio address is an entry of its own: none coincides with a listed one. -/
theorem switchEntry_audio {a : Word} (h : a ∈ Config.audioToggleAddrs) : switchEntry a = .audio := by
  rw [switchEntry_unlisted (unlisted_of_audio h), isAudioToggle, decide_eq_true h, if_pos rfl]

end Sys2Proof.Machine
end

