-- ==== Sys2Proof/Laws/Invariant.lean ====
section
/-! SUPPORT. The invariant and the single access: every disk operation keeps a drive's invariant, so every read and every write keeps the
machine's. Also where an access can raise the fault of R431. -/

namespace Sys2Proof.Machine

/-- The head moves by at most one and stays within 0 and `HT_MAX` (R455, R456). -/
theorem headMove_le {h2 : BitVec 4} {k ht : Nat} (h : ht ≤ Config.htMax) : headMove h2 k ht ≤ Config.htMax := by
  unfold headMove
  split
  · omega
  · split
    · exact Nat.min_le_left _ _
    · exact h

theorem phaseAccess_inv {k : Nat} {on : Bool} {d : Drive} (h : d.Inv) : (phaseAccess k on d).Inv := by
  unfold phaseAccess
  split
  · exact h
  · refine ⟨?_, rfl, h.nibble_lt, h.data_fits⟩
    show (if on then headMove d.h1 k d.halftrack else d.halftrack) ≤ Config.htMax
    split
    · exact headMove_le h.halftrack_le
    · exact h.halftrack_le

/-- Both drives hold their invariant. -/
def Disk.Inv (k : Disk) : Prop := k.drv0.Inv ∧ k.drv1.Inv

theorem Disk.Inv.drive {k : Disk} (h : k.Inv) (n : DriveId) : (k.drive n).Inv := by
  cases n
  · exact h.1
  · exact h.2

theorem Disk.Inv.setDrive {k : Disk} (h : k.Inv) (n : DriveId) {d : Drive} (hd : d.Inv) : (k.setDrive n d).Inv := by
  cases n
  · exact ⟨hd, h.2⟩
  · exact ⟨h.1, hd⟩

theorem Disk.Inv.current {k : Disk} (h : k.Inv) : k.current.Inv := h.drive k.cur

theorem Disk.Inv.setCurrent {k : Disk} (h : k.Inv) {d : Drive} (hd : d.Inv) : (k.setCurrent d).Inv := h.setDrive k.cur hd

theorem Disk.Inv.setMotor {k : Disk} (h : k.Inv) (on : Bool) : (k.setMotor on).Inv :=
  h.setCurrent ⟨h.current.halftrack_le, h.current.track_eq, h.current.nibble_lt, h.current.data_fits⟩

theorem Disk.Inv.setWriteMode {k : Disk} (h : k.Inv) (on : Bool) : (k.setWriteMode on).Inv :=
  h.setCurrent ⟨h.current.halftrack_le, h.current.track_eq, h.current.nibble_lt, h.current.data_fits⟩

theorem selectDrive_inv {n : DriveId} {k : Disk} (h : k.Inv) : (selectDrive n k).Inv := by
  have h0 := h.1
  have h1 := h.2
  cases n
  · exact ⟨⟨h0.halftrack_le, h0.track_eq, h0.nibble_lt, h0.data_fits⟩, ⟨h1.halftrack_le, h1.track_eq, h1.nibble_lt, h1.data_fits⟩⟩
  · exact ⟨⟨h0.halftrack_le, h0.track_eq, h0.nibble_lt, h0.data_fits⟩, ⟨h1.halftrack_le, h1.track_eq, h1.nibble_lt, h1.data_fits⟩⟩

/-- The index of a shift is inside the image (R452). -/
theorem shift_index_lt {d : Drive} (h : d.Inv) (ht : d.track < Config.tracksInImage) :
    Config.trackLen * d.track + d.nibble < Config.imageSize := by
  have hn := h.nibble_lt
  simp only [Config.tracksInImage, Config.trackLen, Config.imageSize] at *
  omega

theorem shiftLatch_inv {k k' : Disk} (h : k.Inv) (hs : shiftLatch k = .ok k') : k'.Inv := by
  have hd := h.current
  have hn : (k.current.nibble + 1) % Config.trackLen < Config.trackLen := Nat.mod_lt _ (by decide)
  unfold shiftLatch at hs
  dsimp only at hs
  split at hs
  · cases hs
  · rename_i ht
    split at hs
    · cases hs
      exact h.setCurrent ⟨hd.halftrack_le, hd.track_eq, hn, Memory.fits_store _ hd.data_fits (shift_index_lt hd (by omega))⟩
    · cases hs
      have h1 : ({ k with latch := k.current.data.byteAt (Config.trackLen * k.current.track + k.current.nibble) } : Disk).Inv := h
      exact h1.setCurrent ⟨hd.halftrack_le, hd.track_eq, hn, hd.data_fits⟩

/-- A shift faults exactly when the current track is past the image (R431). -/
theorem shiftLatch_error {k : Disk} {f : Fault} (hs : shiftLatch k = .error f) :
    Config.tracksInImage ≤ k.current.track ∧ f = .diskTrackBeyondImage k.cur k.current.track := by
  unfold shiftLatch at hs
  dsimp only at hs
  split at hs
  · cases hs
    exact ⟨by assumption, rfl⟩
  · split at hs <;> cases hs

theorem diskTouch_inv {off : Nat} {k : Disk} (h : k.Inv) : (diskTouch off k).Inv := by
  unfold diskTouch
  split
  · exact h.setCurrent (phaseAccess_inv h.current)
  · repeat' split
    · exact h.setMotor false
    · exact h.setMotor true
    · exact selectDrive_inv h
    · exact selectDrive_inv h
    · exact h.setWriteMode false
    · exact h.setWriteMode true
    · exact h

theorem diskRead_inv {off : Nat} {fl v : Byte} {k k' : Disk} (h : k.Inv) (hr : diskRead off fl k = .ok (v, k')) : k'.Inv := by
  unfold diskRead at hr
  split at hr
  · split at hr
    · rename_i hs
      cases hr
      exact shiftLatch_inv h hs
    · cases hr
  · split at hr
    · cases hr
      exact (diskTouch_inv h).setMotor false
    · cases hr
      exact diskTouch_inv h

theorem diskWrite_inv {off : Nat} {v : Byte} {k k' : Disk} (h : k.Inv) (hw : diskWrite off v k = .ok k') : k'.Inv := by
  unfold diskWrite at hw
  split at hw
  · exact shiftLatch_inv h hw
  · split at hw
    · cases hw
      exact h
    · cases hw
      exact diskTouch_inv h

/-- The invariant is about the arrays and the drives alone. -/
theorem State.Inv.of_same {s t : State} (h : s.Inv) (hs : SameButDevices s t) (hd : t.disk.Inv) : t.Inv :=
  ⟨by rw [hs.ram_eq]; exact h.ram_fits, by rw [hs.rom_eq]; exact h.rom_fits, by rw [hs.slotRom_eq]; exact h.slot_fits,
    by rw [hs.expRom_eq]; exact h.exp_fits, hd.1, hd.2⟩

theorem State.Inv.disk {s : State} (h : s.Inv) : s.disk.Inv := ⟨h.drv0, h.drv1⟩

theorem switchTouch_disk (a : Word) (s : State) : (switchTouch a s).disk = s.disk := by
  unfold switchTouch
  generalize switchEntry a = e
  cases e <;> rfl

theorem expansionOff_disk_inv {a : Word} {s : State} (h : s.disk.Inv) : (expansionOff a s).disk.Inv := by
  unfold expansionOff
  by_cases ha : a = 0xCFFF
  · rw [if_pos ha]
    exact h.setMotor false
  · rw [if_neg ha]
    exact h

theorem switchRead_disk_inv {a : Word} {s t : State} {v : Byte} (h : s.disk.Inv) (hr : switchRead a s = .ok v t) : t.disk.Inv := by
  have ht := switchTouch_disk a s
  unfold switchRead at hr
  split at hr
  case h_3 => split at hr <;> (cases hr; exact h)
  case h_8 =>
    split at hr
    · rename_i hk
      cases hr
      exact diskRead_inv h hk
    · cases hr
  all_goals
    cases hr
    first
      | exact h
      | (rw [ht]; exact h)

theorem switchWrite_disk_inv {a : Word} {v : Byte} {s t : State} (h : s.disk.Inv) (hw : switchWrite a v s = .ok () t) : t.disk.Inv := by
  have ht := switchTouch_disk a s
  unfold switchWrite at hw
  split at hw
  case h_8 =>
    split at hw
    · rename_i hk
      cases hw
      exact diskWrite_inv h hk
    · cases hw
  all_goals
    cases hw
    first
      | exact h
      | (rw [ht]; exact h)

/-- Every read keeps the invariant. -/
theorem read_inv {a : Word} {s t : State} {v : Byte} (h : s.Inv) (hr : read a s = .ok v t) : t.Inv := by
  refine h.of_same (read_same hr) ?_
  unfold read at hr
  split at hr
  · exact switchRead_disk_inv h.disk hr
  · cases hr
    exact expansionOff_disk_inv h.disk

/-- Every write keeps the invariant. -/
theorem write_inv {a : Word} {v : Byte} {s t : State} (h : s.Inv) (hw : write a v s = .ok () t) : t.Inv := by
  obtain ⟨b, hb, rfl⟩ | ⟨hb, hs⟩ := write_cases hw
  · exact ⟨Ram.fits_store s.ram b _ v h.ram_fits (sink_index_lt hb), h.rom_fits, h.slot_fits, h.exp_fits, h.drv0, h.drv1⟩
  · refine h.of_same hs ?_
    unfold write at hw
    generalize sink s.sw a = k at hw
    cases k with
    | switch => exact switchWrite_disk_inv h.disk hw
    | ram b =>
      cases hw
      exact h.disk
    | discard =>
      cases hw
      exact expansionOff_disk_inv h.disk

/-- An access that stops is a shift at 0xC0EC with the current track past the image (R431, R463). -/
theorem read_stop {a : Word} {s : State} {f : Fault} (hr : read a s = .stop f) :
    source s.sw a = .switch ∧ switchEntry a = .disk 0xC ∧ Config.tracksInImage ≤ s.disk.current.track := by
  unfold read at hr
  split at hr
  · rename_i hsrc
    refine ⟨hsrc, ?_⟩
    unfold switchRead at hr
    split at hr
    case h_3 => split at hr <;> cases hr
    case h_8 =>
      rename_i off hoff
      split at hr
      · cases hr
      · rename_i g hk
        unfold diskRead at hk
        split at hk
        · rename_i h12
          split at hk
          · cases hk
          · rename_i hg
            rw [hoff, h12]
            exact ⟨rfl, (shiftLatch_error hg).1⟩
        · split at hk <;> cases hk
    all_goals cases hr
  · cases hr

/-- The same for a write. -/
theorem write_stop {a : Word} {v : Byte} {s : State} {f : Fault} (hw : write a v s = .stop f) :
    sink s.sw a = .switch ∧ switchEntry a = .disk 0xC ∧ Config.tracksInImage ≤ s.disk.current.track := by
  unfold write at hw
  split at hw
  · rename_i hsrc
    refine ⟨hsrc, ?_⟩
    unfold switchWrite at hw
    split at hw
    case h_8 =>
      rename_i off hoff
      split at hw
      · cases hw
      · rename_i g hk
        unfold diskWrite at hk
        split at hk
        · rename_i h12
          rw [hoff, h12]
          exact ⟨rfl, (shiftLatch_error hk).1⟩
        · split at hk <;> cases hk
    all_goals cases hw
  · cases hw
  · cases hw

/-- Offset 0xC of the disk controller stands at one address of the soft-switch window: 0xC0EC (R116). -/
theorem shift_addr {a : Word} (h1 : 0xC000 ≤ a.toNat ∧ a.toNat < 0xC100) (h : switchEntry a = .disk 0xC) : a = 0xC0EC := by
  unfold switchEntry at h
  dsimp only at h
  by_cases hc : (loByte a).toNat < 0x10
  · rw [if_pos hc] at h; cases h
  rw [if_neg hc] at h; clear hc
  by_cases hc : (loByte a).toNat = 0x10
  · rw [if_pos hc] at h; cases h
  rw [if_neg hc] at h; clear hc
  by_cases hc : (loByte a).toNat < 0x20
  · rw [if_pos hc] at h; cases h
  rw [if_neg hc] at h; clear hc
  by_cases hc : 0x50 ≤ (loByte a).toNat ∧ (loByte a).toNat < 0x58
  · rw [if_pos hc] at h; cases h
  rw [if_neg hc] at h; clear hc
  by_cases hc : 0x58 ≤ (loByte a).toNat ∧ (loByte a).toNat < 0x60
  · rw [if_pos hc] at h; cases h
  rw [if_neg hc] at h; clear hc
  by_cases hc : a ∈ Config.inputReadAddrs
  · rw [if_pos hc] at h; cases h
  rw [if_neg hc] at h; clear hc
  by_cases hc : a = Config.paddleResetAddr
  · rw [if_pos hc] at h; cases h
  rw [if_neg hc] at h; clear hc
  by_cases hc : (loByte a).toNat = 0x7E
  · rw [if_pos hc] at h; cases h
  rw [if_neg hc] at h; clear hc
  by_cases hc : (loByte a).toNat = 0x7F
  · rw [if_pos hc] at h; cases h
  rw [if_neg hc] at h; clear hc
  by_cases hc : 0x80 ≤ (loByte a).toNat ∧ (loByte a).toNat < 0x90
  · rw [if_pos hc] at h; cases h
  rw [if_neg hc] at h; clear hc
  by_cases hc : 0xE0 ≤ (loByte a).toNat ∧ (loByte a).toNat < 0xF0
  · rw [if_pos hc] at h
    have h2 := SwitchEntry.disk.inj h
    rw [loByte, BitVec.toNat_setWidth] at hc h2
    apply BitVec.eq_of_toNat_eq
    show a.toNat = 0xC0EC
    omega
  rw [if_neg hc] at h
  by_cases hc : isAudioToggle a = true
  · rw [if_pos hc] at h; cases h
  · rw [if_neg hc] at h; cases h

/-- What the soft-switch table serves lies in 0xC000 to 0xC0FF (R90). -/
theorem range_of_source {sw : Switches} {a : Word} (h : source sw a = .switch) : 0xC000 ≤ a.toNat ∧ a.toNat < 0xC100 := by
  unfold source at h
  dsimp only at h
  repeat' split at h
  all_goals cases h
  omega

/-- The same for a write. -/
theorem range_of_sink {sw : Switches} {a : Word} (h : sink sw a = .switch) : 0xC000 ≤ a.toNat ∧ a.toNat < 0xC100 := by
  unfold sink at h
  dsimp only at h
  repeat' split at h
  all_goals cases h
  omega

end Sys2Proof.Machine
end

