-- ==== Sys2Proof/Laws/Operands.lean ====
section
/-! SUPPORT. What each operand class does, said once, in terms of one access at the closed effective address. -/

namespace Sys2Proof.Machine

/-- The read class with an immediate operand. -/
theorem withRead_imm (v : Byte) (c : Cost) (k : Byte → State → State) (s : State) :
    withRead (.imm v) c k s = .next (charge c false (k v s)) := rfl

/-- The read class with a memory operand: one read at the effective address. -/
theorem withRead_mem (m : MemMode) (c : Cost) (k : Byte → State → State) (s : State) :
    withRead (.mem m) c k s =
      ((read (effAddr m s) s).bind fun v s1 => .ok () (charge c (crosses m s) (k v s1))).outcome := by
  simp only [withRead, effectiveAddress_eq, Res.bind_ok]

/-- The write class: one write at the effective address. -/
theorem withWrite_eq (m : MemMode) (c : Cost) (v : State → Byte) (s : State) :
    withWrite m c v s =
      ((write (effAddr m s) (v s) s).bind fun _ s1 => .ok () (charge c (crosses m s) s1)).outcome := by
  simp only [withWrite, effectiveAddress_eq, Res.bind_ok]

/-- The read-modify-write class on the accumulator. -/
theorem withModify_acc (c : Cost) (f : State → Byte → Byte × Status) (s : State) :
    withModify .acc c f s = .next (charge c false { s with a := (f s s.a).1, p := (f s s.a).2 }) := rfl

/-- The read-modify-write class in memory: one read, then one write at the same address. -/
theorem withModify_mem (m : MemMode) (c : Cost) (f : State → Byte → Byte × Status) (s : State) :
    withModify (.mem m) c f s =
      ((read (effAddr m s) s).bind fun v s1 =>
        (write (effAddr m s) (f s1 v).1 s1).bind fun _ s2 =>
          .ok () (charge c (crosses m s) { s2 with p := (f s1 v).2 })).outcome := by
  simp only [withModify, effectiveAddress_eq, Res.bind_ok]

/-- A push instruction always completes. -/
theorem withPush_eq (v : State → Byte) (s : State) :
    withPush v s =
      .next ({ s with ram := s.ram.store (zeroBank s.sw) (0x100 + s.sp.toNat) (v s), sp := s.sp - 1 }.tick 3) := by
  simp only [withPush, push_eq, Res.bind_ok, Res.outcome_ok]

/-- A pull instruction always completes. -/
theorem withPull_eq (k : Byte → State → State) (s : State) :
    withPull k s = .next ((k (stackByte (s.sp + 1) s) { s with sp := s.sp + 1 }).tick 4) := by
  simp only [withPull, pull_eq, Res.bind_ok, Res.outcome_ok]

/-- A branch on a zero-page bit always completes. -/
theorem branchOnBit_eq (k : Nat) (want : Bool) (z rel : Byte) (s : State) :
    branchOnBit k want z rel s = .next (branchIf 5 ((zeroPageByte z s).getLsbD k == want) rel s) := by
  simp only [branchOnBit, read_zeroPage, Res.bind_ok, Res.outcome_ok]

/-- Changing a bit of the zero page always completes. -/
theorem modifyZeroPage_eq (z : Byte) (c : Cost) (f : State → Byte → Byte × Status) (s : State) :
    withModify (.mem (.zp z)) c f s =
      .next (charge c false
        { s with
          ram := s.ram.store (zeroBank s.sw) z.toNat (f s (zeroPageByte z s)).1
          p := (f s (zeroPageByte z s)).2 }) := by
  have hz := z.isLt
  have ht := toNat_zext16 z
  rw [withModify_mem]
  simp only [effAddr, read_zeroPage, Res.bind_ok]
  rw [write_low (by omega), ramBank_page01 (by omega), ht]
  rfl

/-- A jump through a pointer: two reads, in this order. -/
theorem jumpThrough_eq (p : Word) (s : State) :
    jumpThrough p s =
      ((read p s).bind fun lo s1 => (read (p + 1) s1).bind fun hi s2 =>
        .ok () ({ s2 with pc := joinBytes lo hi }.tick 6)).outcome := by
  unfold jumpThrough read16
  cases read p s with
  | stop f => rfl
  | ok lo s1 =>
    simp only [Res.bind_ok]
    cases read (p + 1) s1 with
    | stop f => rfl
    | ok hi s2 => rfl

/-- A pull from a handler always completes (R345). -/
theorem returnFromHandler_eq (s : State) :
    returnFromHandler s =
      .ok () { s with
        p := Status.unpack (stackByte (s.sp + 1) s), sp := s.sp + 1 + 1 + 1,
        pc := joinBytes (stackByte (s.sp + 1 + 1) s) (stackByte (s.sp + 1 + 1 + 1) s) } := by
  simp only [returnFromHandler, pull_eq, pullWord_eq, Res.bind_ok]
  rfl

/-! Everything a class can do when it answers a next state. -/

theorem withRead_next {o : Operand} {c : Cost} {k : Byte → State → State} {s t : State} (h : withRead o c k s = .next t) :
    ∃ v s1 cross, SameButDevices s s1 ∧ (s.Inv → s1.Inv) ∧ t = charge c cross (k v s1) := by
  cases o with
  | imm v =>
    cases h
    exact ⟨v, s, false, SameButDevices.refl s, id, rfl⟩
  | mem m =>
    rw [withRead_mem] at h
    obtain ⟨v, s1, hr, hk⟩ := Res.bind_eq_ok (Res.outcome_eq_next h)
    cases hk
    exact ⟨v, s1, crosses m s, read_same hr, fun hi => read_inv hi hr, rfl⟩

theorem withWrite_next {m : MemMode} {c : Cost} {v : State → Byte} {s t : State} (h : withWrite m c v s = .next t) :
    ∃ s1, write (effAddr m s) (v s) s = .ok () s1 ∧ t = charge c (crosses m s) s1 := by
  rw [withWrite_eq] at h
  obtain ⟨u, s1, hw, hk⟩ := Res.bind_eq_ok (Res.outcome_eq_next h)
  cases hk
  exact ⟨s1, hw, rfl⟩

theorem withModify_next {m : MemMode} {c : Cost} {f : State → Byte → Byte × Status} {s t : State}
    (h : withModify (.mem m) c f s = .next t) :
    ∃ v s1 s2, read (effAddr m s) s = .ok v s1 ∧ write (effAddr m s) (f s1 v).1 s1 = .ok () s2 ∧
      t = charge c (crosses m s) { s2 with p := (f s1 v).2 } := by
  rw [withModify_mem] at h
  obtain ⟨v, s1, hr, h1⟩ := Res.bind_eq_ok (Res.outcome_eq_next h)
  obtain ⟨u, s2, hw, h2⟩ := Res.bind_eq_ok h1
  cases h2
  exact ⟨v, s1, s2, hr, hw, rfl⟩

theorem jumpThrough_next {p : Word} {s t : State} (h : jumpThrough p s = .next t) :
    ∃ w s2, SameButDevices s s2 ∧ (s.Inv → s2.Inv) ∧ t = { s2 with pc := w }.tick 6 := by
  rw [jumpThrough_eq] at h
  obtain ⟨lo, s1, hr, h1⟩ := Res.bind_eq_ok (Res.outcome_eq_next h)
  obtain ⟨hi, s2, hr2, h2⟩ := Res.bind_eq_ok h1
  cases h2
  exact ⟨joinBytes lo hi, s2, (read_same hr).trans (read_same hr2), fun hi => read_inv (read_inv hi hr) hr2, rfl⟩

end Sys2Proof.Machine
end

