-- ==== Sys2Proof/Laws/Cost.lean ====
section
/-! SUPPORT. What an instruction adds to `ticks`: at least 1 cycle and at most 8 (30 R144, 40 R177, 70 R522), and so a loop of `execute` with
enough fuel does not depend on the fuel. -/

namespace Sys2Proof.Machine

/-- If `r` answers a next state, its `ticks` are those of `s` and 1 to 8 more. -/
def Spends (r : Result) (s : State) : Prop :=
  ∀ t, r = .next t → ∃ k, 1 ≤ k ∧ k ≤ 8 ∧ t.ticks = s.ticks + BitVec.ofNat 64 k

theorem write_ticks {a : Word} {v : Byte} {s t : State} (h : write a v s = .ok () t) : t.ticks = s.ticks := by
  unfold write at h
  split at h
  · exact (switchWrite_same h).ticks_eq
  · cases h; rfl
  · cases h; exact (expansionOff_same a s).ticks_eq

theorem spends_tick {u s : State} {k : Nat} (h : u.ticks = s.ticks) (h1 : 1 ≤ k) (h8 : k ≤ 8) : Spends (.next (u.tick k)) s := by
  intro t ht
  cases ht
  exact ⟨k, h1, h8, by show u.ticks + _ = _; rw [h]⟩

theorem spends_charge {u s : State} {c : Cost} {cross : Bool} (h : u.ticks = s.ticks) (hc : 1 ≤ c.base ∧ c.base ≤ 7) :
    Spends (.next (charge c cross u)) s := by
  refine spends_tick h (by omega) ?_
  split <;> omega

theorem spends_withRead {o : Operand} {c : Cost} {k : Byte → State → State} {s : State} (hk : ∀ v u, (k v u).ticks = u.ticks)
    (hc : 1 ≤ c.base ∧ c.base ≤ 7) : Spends (withRead o c k s) s := by
  intro t ht
  obtain ⟨v, s1, cross, hs, -, he⟩ := withRead_next ht
  exact spends_charge ((hk v s1).trans hs.ticks_eq) hc t (by rw [he])

theorem spends_withWrite {m : MemMode} {c : Cost} {v : State → Byte} {s : State} (hc : 1 ≤ c.base ∧ c.base ≤ 7) :
    Spends (withWrite m c v s) s := by
  intro t ht
  obtain ⟨s1, hw, he⟩ := withWrite_next ht
  exact spends_charge (write_ticks hw) hc t (by rw [he])

theorem spends_withModify {l : Location} {c : Cost} {f : State → Byte → Byte × Status} {s : State} (hc : 1 ≤ c.base ∧ c.base ≤ 7) :
    Spends (withModify l c f s) s := by
  cases l with
  | acc => exact spends_charge rfl hc
  | mem m =>
    intro t ht
    obtain ⟨v, s1, s2, hr, hw, he⟩ := withModify_next ht
    exact spends_charge (u := { s2 with p := (f s1 v).2 }) ((write_ticks hw).trans (read_same hr).ticks_eq) hc t (by rw [he])

theorem spends_withNone {c : Nat} {k : State → State} {s : State} (hk : (k s).ticks = s.ticks) (h1 : 1 ≤ c) (h8 : c ≤ 8) :
    Spends (withNone c k s) s := spends_tick hk h1 h8

theorem spends_withPush {v : State → Byte} {s : State} : Spends (withPush v s) s := by
  rw [withPush_eq]
  exact spends_tick rfl (by decide) (by decide)

theorem spends_withPull {k : Byte → State → State} {s : State} (hk : ∀ v u, (k v u).ticks = u.ticks) : Spends (withPull k s) s := by
  rw [withPull_eq]
  exact spends_tick (k := 4) (hk _ _) (by decide) (by decide)

theorem spends_jumpThrough {p : Word} {s : State} : Spends (jumpThrough p s) s := by
  intro t ht
  obtain ⟨w, s2, hs, -, he⟩ := jumpThrough_next ht
  exact spends_tick (u := { s2 with pc := w }) (k := 6) hs.ticks_eq (by decide) (by decide) t (by rw [he])

theorem pageChange_le (a b : Word) : pageChange a b ≤ 1 := by
  unfold pageChange
  split <;> omega

theorem spends_branchIf {base : Nat} {taken : Bool} {rel : Byte} {s : State} (h1 : 1 ≤ base) (h6 : base ≤ 6) :
    Spends (.next (branchIf base taken rel s)) s := by
  have hp := pageChange_le s.pc (branchTarget rel s)
  unfold branchIf
  split
  · exact spends_tick rfl (by omega) (by omega)
  · exact spends_tick rfl h1 (by omega)

theorem spends_branchOnBit {k : Nat} {want : Bool} {z rel : Byte} {s : State} : Spends (branchOnBit k want z rel s) s := by
  rw [branchOnBit_eq]
  exact spends_branchIf (by decide) (by decide)

theorem spends_bra {rel : Byte} {s : State} : Spends (execBra rel s) s := by
  have hp := pageChange_le s.pc (branchTarget rel s)
  unfold execBra
  exact spends_tick rfl (by omega) (by omega)

theorem spends_jsr {w : Word} {s : State} : Spends (execJsr w s) s := by
  unfold execJsr
  rw [pushWord_eq]
  exact spends_tick rfl (by decide) (by decide)

theorem spends_rts {s : State} : Spends (execRts s) s := by
  unfold execRts
  rw [pullWord_eq]
  exact spends_tick rfl (by decide) (by decide)

theorem spends_rti {s : State} : Spends (execRti s) s := by
  unfold execRti
  rw [returnFromHandler_eq]
  exact spends_tick rfl (by decide) (by decide)

theorem spends_brk {s : State} : Spends (execBrk s) s := by
  unfold execBrk
  obtain ⟨r, -, he⟩ := enterHandler_eq 0xFFFE true { s with pc := s.pc + 1 } (by decide) (by decide)
  rw [he]
  exact spends_tick rfl (by decide) (by decide)

seal withRead withModify withWrite withNone withPush withPull branchOnBit branchIf jumpThrough in
/-- Every instruction costs 1 to 8 cycles. -/
theorem exec_spends (i : Instr) (s : State) : Spends (exec i s) s := by
  cases i
  case bra => exact spends_bra
  case jsr => exact spends_jsr
  case rts => exact spends_rts
  case rti => exact spends_rti
  case brk => exact spends_brk
  all_goals
    first
    | (refine spends_withRead ?_ ?_; (intro v u; rfl); decide)
    | (refine spends_withModify ?_; decide)
    | (refine spends_withWrite ?_; decide)
    | (refine spends_withNone ?_ ?_ ?_; rfl; decide; decide)
    | exact spends_branchOnBit
    | (refine spends_branchIf ?_ ?_ <;> decide)
    | exact spends_withPush
    | (refine spends_withPull ?_; (intro v u; rfl))
    | exact spends_jumpThrough

theorem fetchByte_ticks {s t : State} {v : Byte} (h : fetchByte s = .ok v t) : t.ticks = s.ticks := by
  obtain ⟨v', s1, hr, hk⟩ := Res.bind_eq_ok h
  cases hk
  exact (read_same hr).ticks_eq

/-- Fetching costs nothing of its own. -/
theorem fetch_ticks {s t : State} {i : Instr} (h : fetch s = .ok i t) : t.ticks = s.ticks := by
  obtain ⟨op, s1, h1, h⟩ := Res.bind_eq_ok h
  refine Eq.trans ?_ (fetchByte_ticks h1)
  split at h
  · cases h; rfl
  · obtain ⟨b1, s2, h2, h⟩ := Res.bind_eq_ok h
    cases h
    exact fetchByte_ticks h2
  all_goals
    obtain ⟨b1, s2, h2, h⟩ := Res.bind_eq_ok h
    obtain ⟨b2, s3, h3, h⟩ := Res.bind_eq_ok h
    cases h
    exact (fetchByte_ticks h3).trans (fetchByte_ticks h2)

theorem runInstruction_spends (s : State) : Spends (runInstruction s) s := by
  intro t ht
  unfold runInstruction at ht
  split at ht
  · rename_i i s1 hf
    rw [← fetch_ticks hf]
    exact exec_spends i s1 t ht
  · cases ht

/-- Where the counter does not wrap, an instruction leaves it 1 to 8 higher. -/
theorem runInstruction_ticks {s t : State} (h : runInstruction s = .next t) (hw : s.ticks.toNat + 8 < 2 ^ 64) :
    s.ticks.toNat + 1 ≤ t.ticks.toNat ∧ t.ticks.toNat ≤ s.ticks.toNat + 8 := by
  obtain ⟨k, h1, h8, he⟩ := runInstruction_spends s t h
  rw [he, BitVec.toNat_add, BitVec.toNat_ofNat]
  omega

/-- The loop does not depend on its fuel, once there is a turn for each cycle left of the budget. -/
theorem executeLoop_fuel {target : Nat} (hw : target + 8 < 2 ^ 64) :
    ∀ (f g : Nat) (s : State), target ≤ s.ticks.toNat + f → target ≤ s.ticks.toNat + g →
      executeLoop f target s = executeLoop g target s := by
  intro f
  induction f with
  | zero =>
    intro g s hf _
    cases g with
    | zero => rfl
    | succ g => simp only [executeLoop]; rw [if_neg (by omega)]
  | succ f ih =>
    intro g s hf hg
    cases g with
    | zero => simp only [executeLoop]; rw [if_neg (by omega)]
    | succ g =>
      simp only [executeLoop]
      split
      · have hrun : ∀ t, runInstruction s = .next t → executeLoop f target t = executeLoop g target t := by
          intro t ht
          have h := runInstruction_ticks ht (by omega)
          exact ih g t (by omega) (by omega)
        split
        · rfl
        · rfl
        all_goals
          split
          · rename_i t ht
            exact hrun t ht
          · rfl
      · rfl

end Sys2Proof.Machine
end

