-- ==== Sys2Proof/Laws/Decode.lean ====
section
/-! SUPPORT. Decoding through one row of the opcode map, and that every row holds the instruction that encodes to its own place. -/

namespace Sys2Proof

open Sys2Proof.Machine (joinBytes loByte hiByte)

theorem decode_one {op : Byte} {i : Instr} (h : entryOf op = .one i) (bs : List Byte) : decode (op :: bs) = .ok (i, bs) := by
  simp only [decode, h]

theorem decode_two {op : Byte} {f : Byte → Instr} (h : entryOf op = .two f) (b1 : Byte) (bs : List Byte) :
    decode (op :: b1 :: bs) = .ok (f b1, bs) := by
  simp only [decode, h]

theorem decode_wide {op : Byte} {f : Word → Instr} (h : entryOf op = .wide f) (b1 b2 : Byte) (bs : List Byte) :
    decode (op :: b1 :: b2 :: bs) = .ok (f (joinBytes b1 b2), bs) := by
  simp only [decode, h]

theorem decode_pair {op : Byte} {f : Byte → Byte → Instr} (h : entryOf op = .pair f) (b1 b2 : Byte) (bs : List Byte) :
    decode (op :: b1 :: b2 :: bs) = .ok (f b1 b2, bs) := by
  simp only [decode, h]

/-- The two bytes of a word joined again. -/
theorem joinBytes_split (w : Word) : joinBytes (loByte w) (hiByte w) = w := by
  apply BitVec.eq_of_getLsbD_eq
  intro k hk
  simp only [joinBytes, loByte, hiByte, BitVec.getLsbD_append, BitVec.getLsbD_setWidth, BitVec.getLsbD_ushiftRight]
  by_cases h : k < 8
  · simp [h]
  · have e : 8 + (k - 8) = k := by omega
    have e2 : k - 8 < 8 := by omega
    simp [h, e, e2]

theorem loByte_joinBytes (lo hi : Byte) : loByte (joinBytes lo hi) = lo := by
  apply BitVec.eq_of_getLsbD_eq
  intro k hk
  simp only [joinBytes, loByte, BitVec.getLsbD_append, BitVec.getLsbD_setWidth, hk, decide_true, Bool.true_and, if_true]

theorem hiByte_joinBytes (lo hi : Byte) : hiByte (joinBytes lo hi) = hi := by
  apply BitVec.eq_of_getLsbD_eq
  intro k hk
  have e : ¬ (8 + k < 8) := by omega
  have e2 : 8 + k - 8 = k := by omega
  simp only [joinBytes, hiByte, BitVec.getLsbD_append, BitVec.getLsbD_setWidth, BitVec.getLsbD_ushiftRight, hk, e, e2, decide_true,
    Bool.true_and, if_false]

/-- A row stands at its own place: what it builds encodes to this opcode byte and the operand bytes. -/
def RowEntry.AtPlace (e : RowEntry) (op : Byte) : Prop :=
  match e with
  | .one i => encode i = [op]
  | .two f => ∀ b1, encode (f b1) = [op, b1]
  | .wide f => ∀ w, encode (f w) = [op, loByte w, hiByte w]
  | .pair f => ∀ b1 b2, encode (f b1 b2) = [op, b1, b2]

/-- Every row of the opcode map stands at its own place (R143, R144). -/
theorem entryOf_atPlace (op : Byte) : (entryOf op).AtPlace op := by
  have h : ∀ n : Nat, n < 256 → (entryOf (BitVec.ofNat 8 n)).AtPlace (BitVec.ofNat 8 n) := by
    intro n hn
    match n, hn with
    | 0, _ => exact rfl
    | 1, _ => exact fun _ => rfl
    | 2, _ => exact fun _ => rfl
    | 3, _ => exact rfl
    | 4, _ => exact fun _ => rfl
    | 5, _ => exact fun _ => rfl
    | 6, _ => exact fun _ => rfl
    | 7, _ => exact fun _ => rfl
    | 8, _ => exact rfl
    | 9, _ => exact fun _ => rfl
    | 10, _ => exact rfl
    | 11, _ => exact rfl
    | 12, _ => exact fun _ => rfl
    | 13, _ => exact fun _ => rfl
    | 14, _ => exact fun _ => rfl
    | 15, _ => exact fun _ _ => rfl
    | 16, _ => exact fun _ => rfl
    | 17, _ => exact fun _ => rfl
    | 18, _ => exact fun _ => rfl
    | 19, _ => exact rfl
    | 20, _ => exact fun _ => rfl
    | 21, _ => exact fun _ => rfl
    | 22, _ => exact fun _ => rfl
    | 23, _ => exact fun _ => rfl
    | 24, _ => exact rfl
    | 25, _ => exact fun _ => rfl
    | 26, _ => exact rfl
    | 27, _ => exact rfl
    | 28, _ => exact fun _ => rfl
    | 29, _ => exact fun _ => rfl
    | 30, _ => exact fun _ => rfl
    | 31, _ => exact fun _ _ => rfl
    | 32, _ => exact fun _ => rfl
    | 33, _ => exact fun _ => rfl
    | 34, _ => exact fun _ => rfl
    | 35, _ => exact rfl
    | 36, _ => exact fun _ => rfl
    | 37, _ => exact fun _ => rfl
    | 38, _ => exact fun _ => rfl
    | 39, _ => exact fun _ => rfl
    | 40, _ => exact rfl
    | 41, _ => exact fun _ => rfl
    | 42, _ => exact rfl
    | 43, _ => exact rfl
    | 44, _ => exact fun _ => rfl
    | 45, _ => exact fun _ => rfl
    | 46, _ => exact fun _ => rfl
    | 47, _ => exact fun _ _ => rfl
    | 48, _ => exact fun _ => rfl
    | 49, _ => exact fun _ => rfl
    | 50, _ => exact fun _ => rfl
    | 51, _ => exact rfl
    | 52, _ => exact fun _ => rfl
    | 53, _ => exact fun _ => rfl
    | 54, _ => exact fun _ => rfl
    | 55, _ => exact fun _ => rfl
    | 56, _ => exact rfl
    | 57, _ => exact fun _ => rfl
    | 58, _ => exact rfl
    | 59, _ => exact rfl
    | 60, _ => exact fun _ => rfl
    | 61, _ => exact fun _ => rfl
    | 62, _ => exact fun _ => rfl
    | 63, _ => exact fun _ _ => rfl
    | 64, _ => exact rfl
    | 65, _ => exact fun _ => rfl
    | 66, _ => exact fun _ => rfl
    | 67, _ => exact rfl
    | 68, _ => exact fun _ => rfl
    | 69, _ => exact fun _ => rfl
    | 70, _ => exact fun _ => rfl
    | 71, _ => exact fun _ => rfl
    | 72, _ => exact rfl
    | 73, _ => exact fun _ => rfl
    | 74, _ => exact rfl
    | 75, _ => exact rfl
    | 76, _ => exact fun _ => rfl
    | 77, _ => exact fun _ => rfl
    | 78, _ => exact fun _ => rfl
    | 79, _ => exact fun _ _ => rfl
    | 80, _ => exact fun _ => rfl
    | 81, _ => exact fun _ => rfl
    | 82, _ => exact fun _ => rfl
    | 83, _ => exact rfl
    | 84, _ => exact fun _ => rfl
    | 85, _ => exact fun _ => rfl
    | 86, _ => exact fun _ => rfl
    | 87, _ => exact fun _ => rfl
    | 88, _ => exact rfl
    | 89, _ => exact fun _ => rfl
    | 90, _ => exact rfl
    | 91, _ => exact rfl
    | 92, _ => exact fun _ => rfl
    | 93, _ => exact fun _ => rfl
    | 94, _ => exact fun _ => rfl
    | 95, _ => exact fun _ _ => rfl
    | 96, _ => exact rfl
    | 97, _ => exact fun _ => rfl
    | 98, _ => exact fun _ => rfl
    | 99, _ => exact rfl
    | 100, _ => exact fun _ => rfl
    | 101, _ => exact fun _ => rfl
    | 102, _ => exact fun _ => rfl
    | 103, _ => exact fun _ => rfl
    | 104, _ => exact rfl
    | 105, _ => exact fun _ => rfl
    | 106, _ => exact rfl
    | 107, _ => exact rfl
    | 108, _ => exact fun _ => rfl
    | 109, _ => exact fun _ => rfl
    | 110, _ => exact fun _ => rfl
    | 111, _ => exact fun _ _ => rfl
    | 112, _ => exact fun _ => rfl
    | 113, _ => exact fun _ => rfl
    | 114, _ => exact fun _ => rfl
    | 115, _ => exact rfl
    | 116, _ => exact fun _ => rfl
    | 117, _ => exact fun _ => rfl
    | 118, _ => exact fun _ => rfl
    | 119, _ => exact fun _ => rfl
    | 120, _ => exact rfl
    | 121, _ => exact fun _ => rfl
    | 122, _ => exact rfl
    | 123, _ => exact rfl
    | 124, _ => exact fun _ => rfl
    | 125, _ => exact fun _ => rfl
    | 126, _ => exact fun _ => rfl
    | 127, _ => exact fun _ _ => rfl
    | 128, _ => exact fun _ => rfl
    | 129, _ => exact fun _ => rfl
    | 130, _ => exact fun _ => rfl
    | 131, _ => exact rfl
    | 132, _ => exact fun _ => rfl
    | 133, _ => exact fun _ => rfl
    | 134, _ => exact fun _ => rfl
    | 135, _ => exact fun _ => rfl
    | 136, _ => exact rfl
    | 137, _ => exact fun _ => rfl
    | 138, _ => exact rfl
    | 139, _ => exact rfl
    | 140, _ => exact fun _ => rfl
    | 141, _ => exact fun _ => rfl
    | 142, _ => exact fun _ => rfl
    | 143, _ => exact fun _ _ => rfl
    | 144, _ => exact fun _ => rfl
    | 145, _ => exact fun _ => rfl
    | 146, _ => exact fun _ => rfl
    | 147, _ => exact rfl
    | 148, _ => exact fun _ => rfl
    | 149, _ => exact fun _ => rfl
    | 150, _ => exact fun _ => rfl
    | 151, _ => exact fun _ => rfl
    | 152, _ => exact rfl
    | 153, _ => exact fun _ => rfl
    | 154, _ => exact rfl
    | 155, _ => exact rfl
    | 156, _ => exact fun _ => rfl
    | 157, _ => exact fun _ => rfl
    | 158, _ => exact fun _ => rfl
    | 159, _ => exact fun _ _ => rfl
    | 160, _ => exact fun _ => rfl
    | 161, _ => exact fun _ => rfl
    | 162, _ => exact fun _ => rfl
    | 163, _ => exact rfl
    | 164, _ => exact fun _ => rfl
    | 165, _ => exact fun _ => rfl
    | 166, _ => exact fun _ => rfl
    | 167, _ => exact fun _ => rfl
    | 168, _ => exact rfl
    | 169, _ => exact fun _ => rfl
    | 170, _ => exact rfl
    | 171, _ => exact rfl
    | 172, _ => exact fun _ => rfl
    | 173, _ => exact fun _ => rfl
    | 174, _ => exact fun _ => rfl
    | 175, _ => exact fun _ _ => rfl
    | 176, _ => exact fun _ => rfl
    | 177, _ => exact fun _ => rfl
    | 178, _ => exact fun _ => rfl
    | 179, _ => exact rfl
    | 180, _ => exact fun _ => rfl
    | 181, _ => exact fun _ => rfl
    | 182, _ => exact fun _ => rfl
    | 183, _ => exact fun _ => rfl
    | 184, _ => exact rfl
    | 185, _ => exact fun _ => rfl
    | 186, _ => exact rfl
    | 187, _ => exact rfl
    | 188, _ => exact fun _ => rfl
    | 189, _ => exact fun _ => rfl
    | 190, _ => exact fun _ => rfl
    | 191, _ => exact fun _ _ => rfl
    | 192, _ => exact fun _ => rfl
    | 193, _ => exact fun _ => rfl
    | 194, _ => exact fun _ => rfl
    | 195, _ => exact rfl
    | 196, _ => exact fun _ => rfl
    | 197, _ => exact fun _ => rfl
    | 198, _ => exact fun _ => rfl
    | 199, _ => exact fun _ => rfl
    | 200, _ => exact rfl
    | 201, _ => exact fun _ => rfl
    | 202, _ => exact rfl
    | 203, _ => exact rfl
    | 204, _ => exact fun _ => rfl
    | 205, _ => exact fun _ => rfl
    | 206, _ => exact fun _ => rfl
    | 207, _ => exact fun _ _ => rfl
    | 208, _ => exact fun _ => rfl
    | 209, _ => exact fun _ => rfl
    | 210, _ => exact fun _ => rfl
    | 211, _ => exact rfl
    | 212, _ => exact fun _ => rfl
    | 213, _ => exact fun _ => rfl
    | 214, _ => exact fun _ => rfl
    | 215, _ => exact fun _ => rfl
    | 216, _ => exact rfl
    | 217, _ => exact fun _ => rfl
    | 218, _ => exact rfl
    | 219, _ => exact rfl
    | 220, _ => exact fun _ => rfl
    | 221, _ => exact fun _ => rfl
    | 222, _ => exact fun _ => rfl
    | 223, _ => exact fun _ _ => rfl
    | 224, _ => exact fun _ => rfl
    | 225, _ => exact fun _ => rfl
    | 226, _ => exact fun _ => rfl
    | 227, _ => exact rfl
    | 228, _ => exact fun _ => rfl
    | 229, _ => exact fun _ => rfl
    | 230, _ => exact fun _ => rfl
    | 231, _ => exact fun _ => rfl
    | 232, _ => exact rfl
    | 233, _ => exact fun _ => rfl
    | 234, _ => exact rfl
    | 235, _ => exact rfl
    | 236, _ => exact fun _ => rfl
    | 237, _ => exact fun _ => rfl
    | 238, _ => exact fun _ => rfl
    | 239, _ => exact fun _ _ => rfl
    | 240, _ => exact fun _ => rfl
    | 241, _ => exact fun _ => rfl
    | 242, _ => exact fun _ => rfl
    | 243, _ => exact rfl
    | 244, _ => exact fun _ => rfl
    | 245, _ => exact fun _ => rfl
    | 246, _ => exact fun _ => rfl
    | 247, _ => exact fun _ => rfl
    | 248, _ => exact rfl
    | 249, _ => exact fun _ => rfl
    | 250, _ => exact rfl
    | 251, _ => exact rfl
    | 252, _ => exact fun _ => rfl
    | 253, _ => exact fun _ => rfl
    | 254, _ => exact fun _ => rfl
    | 255, _ => exact fun _ _ => rfl
    | n + 256, hn => exact absurd hn (by omega)
  have e := h op.toNat op.isLt
  rwa [BitVec.ofNat_toNat, BitVec.setWidth_eq] at e
end Sys2Proof
end

