-- ==== Sys2Proof/Laws/HostCalls.lean ====
section
/-! SUPPORT. The small lemmas of the host calls that set one part of the state, and what each leaves of the invariant. -/

namespace Sys2Proof.Machine

theorem setSingleStep_idle {s : State} (on : Bool) (h : s.mode = .waiting ∨ s.mode = .stopped) : setSingleStep on s = s := by
  rcases h with h | h <;> simp only [setSingleStep, h]

theorem setSingleStep_runs {s : State} (on : Bool) (h : s.mode = .running ∨ s.mode = .singleStep) :
    setSingleStep on s = { s with mode := if on then .singleStep else .running } := by
  rcases h with h | h <;> simp only [setSingleStep, h]

/-- Whatever the mode setter does, only the mode can differ. -/
theorem setSingleStep_same (on : Bool) (s : State) : setSingleStep on s = { s with mode := (setSingleStep on s).mode } := by
  unfold setSingleStep
  split <;> rfl

/-- Writing back the state that was read changes nothing (R448). -/
@[simp] theorem writeState_self (s : State) : writeState s s = s := rfl

@[simp] theorem writeState_draws (u s : State) : (writeState u s).draws = s.draws := rfl

@[simp] theorem writeState_events (u s : State) : (writeState u s).events = s.events := rfl

theorem writeState_inv {u : State} (h : u.Inv) (s : State) : (writeState u s).Inv :=
  ⟨h.ram_fits, h.rom_fits, h.slot_fits, h.exp_fits, h.drv0, h.drv1⟩

theorem setSingleStep_inv {s : State} (h : s.Inv) (on : Bool) : (setSingleStep on s).Inv := by
  rw [setSingleStep_same]
  exact ⟨h.ram_fits, h.rom_fits, h.slot_fits, h.exp_fits, h.drv0, h.drv1⟩

end Sys2Proof.Machine
end

