-- ==== Sys2Proof/Laws/PerInstr.lean ====
section
/-! SUPPORT. One lemma per constructor about the instruction as syntax: its encoding. -/

namespace Sys2Proof.Laws.Layout

open Sys2Proof.Machine (loByte hiByte)

/-- The instruction is well-formed, and its encoding is as long as the row of its own opcode byte says, 1 to 3 bytes (R140, R148). -/
def Statement (i : Instr) : Prop :=
  i.wellFormed = true ∧ (encode i).length = (entryOf i.opcode).length ∧ 1 ≤ (encode i).length ∧ (encode i).length ≤ 3

/-- From the encoding written out. -/
theorem of_encode {i : Instr} (op : Byte) (rest : List Byte) (h : encode i = op :: rest) (hl : (entryOf op).length = rest.length + 1)
    (hr : rest.length ≤ 2) : Statement i := by
  have ho : i.opcode = op := by simp only [Instr.opcode, h, List.headD_cons]
  refine ⟨rfl, ?_, ?_, ?_⟩
  · rw [ho, hl, h, List.length_cons]
  · rw [h, List.length_cons]
    omega
  · rw [h, List.length_cons]
    omega

theorem ldaIzx (zp8 : Byte) : Statement (.ldaIzx zp8) := of_encode 0xA1 [zp8] rfl rfl (Nat.le_of_ble_eq_true rfl)

theorem ldaZp (zp8 : Byte) : Statement (.ldaZp zp8) := of_encode 0xA5 [zp8] rfl rfl (Nat.le_of_ble_eq_true rfl)

theorem ldaImm (imm8 : Byte) : Statement (.ldaImm imm8) := of_encode 0xA9 [imm8] rfl rfl (Nat.le_of_ble_eq_true rfl)

theorem ldaAbs (addr16 : Word) : Statement (.ldaAbs addr16) := of_encode 0xAD [loByte addr16, hiByte addr16] rfl rfl (Nat.le_of_ble_eq_true rfl)

theorem ldaIzy (zp8 : Byte) : Statement (.ldaIzy zp8) := of_encode 0xB1 [zp8] rfl rfl (Nat.le_of_ble_eq_true rfl)

theorem ldaZpi (zp8 : Byte) : Statement (.ldaZpi zp8) := of_encode 0xB2 [zp8] rfl rfl (Nat.le_of_ble_eq_true rfl)

theorem ldaZpx (zp8 : Byte) : Statement (.ldaZpx zp8) := of_encode 0xB5 [zp8] rfl rfl (Nat.le_of_ble_eq_true rfl)

theorem ldaAby (addr16 : Word) : Statement (.ldaAby addr16) := of_encode 0xB9 [loByte addr16, hiByte addr16] rfl rfl (Nat.le_of_ble_eq_true rfl)

theorem ldaAbx (addr16 : Word) : Statement (.ldaAbx addr16) := of_encode 0xBD [loByte addr16, hiByte addr16] rfl rfl (Nat.le_of_ble_eq_true rfl)

theorem ldxImm (imm8 : Byte) : Statement (.ldxImm imm8) := of_encode 0xA2 [imm8] rfl rfl (Nat.le_of_ble_eq_true rfl)

theorem ldxZp (zp8 : Byte) : Statement (.ldxZp zp8) := of_encode 0xA6 [zp8] rfl rfl (Nat.le_of_ble_eq_true rfl)

theorem ldxAbs (addr16 : Word) : Statement (.ldxAbs addr16) := of_encode 0xAE [loByte addr16, hiByte addr16] rfl rfl (Nat.le_of_ble_eq_true rfl)

theorem ldxZpy (zp8 : Byte) : Statement (.ldxZpy zp8) := of_encode 0xB6 [zp8] rfl rfl (Nat.le_of_ble_eq_true rfl)

theorem ldxAby (addr16 : Word) : Statement (.ldxAby addr16) := of_encode 0xBE [loByte addr16, hiByte addr16] rfl rfl (Nat.le_of_ble_eq_true rfl)

theorem ldyImm (imm8 : Byte) : Statement (.ldyImm imm8) := of_encode 0xA0 [imm8] rfl rfl (Nat.le_of_ble_eq_true rfl)

theorem ldyZp (zp8 : Byte) : Statement (.ldyZp zp8) := of_encode 0xA4 [zp8] rfl rfl (Nat.le_of_ble_eq_true rfl)

theorem ldyAbs (addr16 : Word) : Statement (.ldyAbs addr16) := of_encode 0xAC [loByte addr16, hiByte addr16] rfl rfl (Nat.le_of_ble_eq_true rfl)

theorem ldyZpx (zp8 : Byte) : Statement (.ldyZpx zp8) := of_encode 0xB4 [zp8] rfl rfl (Nat.le_of_ble_eq_true rfl)

theorem ldyAbx (addr16 : Word) : Statement (.ldyAbx addr16) := of_encode 0xBC [loByte addr16, hiByte addr16] rfl rfl (Nat.le_of_ble_eq_true rfl)

theorem staIzx (zp8 : Byte) : Statement (.staIzx zp8) := of_encode 0x81 [zp8] rfl rfl (Nat.le_of_ble_eq_true rfl)

theorem staZp (zp8 : Byte) : Statement (.staZp zp8) := of_encode 0x85 [zp8] rfl rfl (Nat.le_of_ble_eq_true rfl)

theorem staAbs (addr16 : Word) : Statement (.staAbs addr16) := of_encode 0x8D [loByte addr16, hiByte addr16] rfl rfl (Nat.le_of_ble_eq_true rfl)

theorem staIzy (zp8 : Byte) : Statement (.staIzy zp8) := of_encode 0x91 [zp8] rfl rfl (Nat.le_of_ble_eq_true rfl)

theorem staZpi (zp8 : Byte) : Statement (.staZpi zp8) := of_encode 0x92 [zp8] rfl rfl (Nat.le_of_ble_eq_true rfl)

theorem staZpx (zp8 : Byte) : Statement (.staZpx zp8) := of_encode 0x95 [zp8] rfl rfl (Nat.le_of_ble_eq_true rfl)

theorem staAby (addr16 : Word) : Statement (.staAby addr16) := of_encode 0x99 [loByte addr16, hiByte addr16] rfl rfl (Nat.le_of_ble_eq_true rfl)

theorem staAbx (addr16 : Word) : Statement (.staAbx addr16) := of_encode 0x9D [loByte addr16, hiByte addr16] rfl rfl (Nat.le_of_ble_eq_true rfl)

theorem stxZp (zp8 : Byte) : Statement (.stxZp zp8) := of_encode 0x86 [zp8] rfl rfl (Nat.le_of_ble_eq_true rfl)

theorem stxAbs (addr16 : Word) : Statement (.stxAbs addr16) := of_encode 0x8E [loByte addr16, hiByte addr16] rfl rfl (Nat.le_of_ble_eq_true rfl)

theorem stxZpy (zp8 : Byte) : Statement (.stxZpy zp8) := of_encode 0x96 [zp8] rfl rfl (Nat.le_of_ble_eq_true rfl)

theorem styZp (zp8 : Byte) : Statement (.styZp zp8) := of_encode 0x84 [zp8] rfl rfl (Nat.le_of_ble_eq_true rfl)

theorem styAbs (addr16 : Word) : Statement (.styAbs addr16) := of_encode 0x8C [loByte addr16, hiByte addr16] rfl rfl (Nat.le_of_ble_eq_true rfl)

theorem styZpx (zp8 : Byte) : Statement (.styZpx zp8) := of_encode 0x94 [zp8] rfl rfl (Nat.le_of_ble_eq_true rfl)

theorem stzZp (zp8 : Byte) : Statement (.stzZp zp8) := of_encode 0x64 [zp8] rfl rfl (Nat.le_of_ble_eq_true rfl)

theorem stzZpx (zp8 : Byte) : Statement (.stzZpx zp8) := of_encode 0x74 [zp8] rfl rfl (Nat.le_of_ble_eq_true rfl)

theorem stzAbs (addr16 : Word) : Statement (.stzAbs addr16) := of_encode 0x9C [loByte addr16, hiByte addr16] rfl rfl (Nat.le_of_ble_eq_true rfl)

theorem stzAbx (addr16 : Word) : Statement (.stzAbx addr16) := of_encode 0x9E [loByte addr16, hiByte addr16] rfl rfl (Nat.le_of_ble_eq_true rfl)

theorem adcIzx (zp8 : Byte) : Statement (.adcIzx zp8) := of_encode 0x61 [zp8] rfl rfl (Nat.le_of_ble_eq_true rfl)

theorem adcZp (zp8 : Byte) : Statement (.adcZp zp8) := of_encode 0x65 [zp8] rfl rfl (Nat.le_of_ble_eq_true rfl)

theorem adcImm (imm8 : Byte) : Statement (.adcImm imm8) := of_encode 0x69 [imm8] rfl rfl (Nat.le_of_ble_eq_true rfl)

theorem adcAbs (addr16 : Word) : Statement (.adcAbs addr16) := of_encode 0x6D [loByte addr16, hiByte addr16] rfl rfl (Nat.le_of_ble_eq_true rfl)

theorem adcIzy (zp8 : Byte) : Statement (.adcIzy zp8) := of_encode 0x71 [zp8] rfl rfl (Nat.le_of_ble_eq_true rfl)

theorem adcZpi (zp8 : Byte) : Statement (.adcZpi zp8) := of_encode 0x72 [zp8] rfl rfl (Nat.le_of_ble_eq_true rfl)

theorem adcZpx (zp8 : Byte) : Statement (.adcZpx zp8) := of_encode 0x75 [zp8] rfl rfl (Nat.le_of_ble_eq_true rfl)

theorem adcAby (addr16 : Word) : Statement (.adcAby addr16) := of_encode 0x79 [loByte addr16, hiByte addr16] rfl rfl (Nat.le_of_ble_eq_true rfl)

theorem adcAbx (addr16 : Word) : Statement (.adcAbx addr16) := of_encode 0x7D [loByte addr16, hiByte addr16] rfl rfl (Nat.le_of_ble_eq_true rfl)

theorem sbcIzx (zp8 : Byte) : Statement (.sbcIzx zp8) := of_encode 0xE1 [zp8] rfl rfl (Nat.le_of_ble_eq_true rfl)

theorem sbcZp (zp8 : Byte) : Statement (.sbcZp zp8) := of_encode 0xE5 [zp8] rfl rfl (Nat.le_of_ble_eq_true rfl)

theorem sbcImm (imm8 : Byte) : Statement (.sbcImm imm8) := of_encode 0xE9 [imm8] rfl rfl (Nat.le_of_ble_eq_true rfl)

theorem sbcAbs (addr16 : Word) : Statement (.sbcAbs addr16) := of_encode 0xED [loByte addr16, hiByte addr16] rfl rfl (Nat.le_of_ble_eq_true rfl)

theorem sbcIzy (zp8 : Byte) : Statement (.sbcIzy zp8) := of_encode 0xF1 [zp8] rfl rfl (Nat.le_of_ble_eq_true rfl)

theorem sbcZpi (zp8 : Byte) : Statement (.sbcZpi zp8) := of_encode 0xF2 [zp8] rfl rfl (Nat.le_of_ble_eq_true rfl)

theorem sbcZpx (zp8 : Byte) : Statement (.sbcZpx zp8) := of_encode 0xF5 [zp8] rfl rfl (Nat.le_of_ble_eq_true rfl)

theorem sbcAby (addr16 : Word) : Statement (.sbcAby addr16) := of_encode 0xF9 [loByte addr16, hiByte addr16] rfl rfl (Nat.le_of_ble_eq_true rfl)

theorem sbcAbx (addr16 : Word) : Statement (.sbcAbx addr16) := of_encode 0xFD [loByte addr16, hiByte addr16] rfl rfl (Nat.le_of_ble_eq_true rfl)

theorem cmpIzx (zp8 : Byte) : Statement (.cmpIzx zp8) := of_encode 0xC1 [zp8] rfl rfl (Nat.le_of_ble_eq_true rfl)

theorem cmpZp (zp8 : Byte) : Statement (.cmpZp zp8) := of_encode 0xC5 [zp8] rfl rfl (Nat.le_of_ble_eq_true rfl)

theorem cmpImm (imm8 : Byte) : Statement (.cmpImm imm8) := of_encode 0xC9 [imm8] rfl rfl (Nat.le_of_ble_eq_true rfl)

theorem cmpAbs (addr16 : Word) : Statement (.cmpAbs addr16) := of_encode 0xCD [loByte addr16, hiByte addr16] rfl rfl (Nat.le_of_ble_eq_true rfl)

theorem cmpIzy (zp8 : Byte) : Statement (.cmpIzy zp8) := of_encode 0xD1 [zp8] rfl rfl (Nat.le_of_ble_eq_true rfl)

theorem cmpZpi (zp8 : Byte) : Statement (.cmpZpi zp8) := of_encode 0xD2 [zp8] rfl rfl (Nat.le_of_ble_eq_true rfl)

theorem cmpZpx (zp8 : Byte) : Statement (.cmpZpx zp8) := of_encode 0xD5 [zp8] rfl rfl (Nat.le_of_ble_eq_true rfl)

theorem cmpAby (addr16 : Word) : Statement (.cmpAby addr16) := of_encode 0xD9 [loByte addr16, hiByte addr16] rfl rfl (Nat.le_of_ble_eq_true rfl)

theorem cmpAbx (addr16 : Word) : Statement (.cmpAbx addr16) := of_encode 0xDD [loByte addr16, hiByte addr16] rfl rfl (Nat.le_of_ble_eq_true rfl)

theorem cpxImm (imm8 : Byte) : Statement (.cpxImm imm8) := of_encode 0xE0 [imm8] rfl rfl (Nat.le_of_ble_eq_true rfl)

theorem cpxZp (zp8 : Byte) : Statement (.cpxZp zp8) := of_encode 0xE4 [zp8] rfl rfl (Nat.le_of_ble_eq_true rfl)

theorem cpxAbs (addr16 : Word) : Statement (.cpxAbs addr16) := of_encode 0xEC [loByte addr16, hiByte addr16] rfl rfl (Nat.le_of_ble_eq_true rfl)

theorem cpyImm (imm8 : Byte) : Statement (.cpyImm imm8) := of_encode 0xC0 [imm8] rfl rfl (Nat.le_of_ble_eq_true rfl)

theorem cpyZp (zp8 : Byte) : Statement (.cpyZp zp8) := of_encode 0xC4 [zp8] rfl rfl (Nat.le_of_ble_eq_true rfl)

theorem cpyAbs (addr16 : Word) : Statement (.cpyAbs addr16) := of_encode 0xCC [loByte addr16, hiByte addr16] rfl rfl (Nat.le_of_ble_eq_true rfl)

theorem incZp (zp8 : Byte) : Statement (.incZp zp8) := of_encode 0xE6 [zp8] rfl rfl (Nat.le_of_ble_eq_true rfl)

theorem incAbs (addr16 : Word) : Statement (.incAbs addr16) := of_encode 0xEE [loByte addr16, hiByte addr16] rfl rfl (Nat.le_of_ble_eq_true rfl)

theorem incZpx (zp8 : Byte) : Statement (.incZpx zp8) := of_encode 0xF6 [zp8] rfl rfl (Nat.le_of_ble_eq_true rfl)

theorem incAbx (addr16 : Word) : Statement (.incAbx addr16) := of_encode 0xFE [loByte addr16, hiByte addr16] rfl rfl (Nat.le_of_ble_eq_true rfl)

theorem decZp (zp8 : Byte) : Statement (.decZp zp8) := of_encode 0xC6 [zp8] rfl rfl (Nat.le_of_ble_eq_true rfl)

theorem decAbs (addr16 : Word) : Statement (.decAbs addr16) := of_encode 0xCE [loByte addr16, hiByte addr16] rfl rfl (Nat.le_of_ble_eq_true rfl)

theorem decZpx (zp8 : Byte) : Statement (.decZpx zp8) := of_encode 0xD6 [zp8] rfl rfl (Nat.le_of_ble_eq_true rfl)

theorem decAbx (addr16 : Word) : Statement (.decAbx addr16) := of_encode 0xDE [loByte addr16, hiByte addr16] rfl rfl (Nat.le_of_ble_eq_true rfl)

theorem andIzx (zp8 : Byte) : Statement (.andIzx zp8) := of_encode 0x21 [zp8] rfl rfl (Nat.le_of_ble_eq_true rfl)

theorem andZp (zp8 : Byte) : Statement (.andZp zp8) := of_encode 0x25 [zp8] rfl rfl (Nat.le_of_ble_eq_true rfl)

theorem andImm (imm8 : Byte) : Statement (.andImm imm8) := of_encode 0x29 [imm8] rfl rfl (Nat.le_of_ble_eq_true rfl)

theorem andAbs (addr16 : Word) : Statement (.andAbs addr16) := of_encode 0x2D [loByte addr16, hiByte addr16] rfl rfl (Nat.le_of_ble_eq_true rfl)

theorem andIzy (zp8 : Byte) : Statement (.andIzy zp8) := of_encode 0x31 [zp8] rfl rfl (Nat.le_of_ble_eq_true rfl)

theorem andZpi (zp8 : Byte) : Statement (.andZpi zp8) := of_encode 0x32 [zp8] rfl rfl (Nat.le_of_ble_eq_true rfl)

theorem andZpx (zp8 : Byte) : Statement (.andZpx zp8) := of_encode 0x35 [zp8] rfl rfl (Nat.le_of_ble_eq_true rfl)

theorem andAby (addr16 : Word) : Statement (.andAby addr16) := of_encode 0x39 [loByte addr16, hiByte addr16] rfl rfl (Nat.le_of_ble_eq_true rfl)

theorem andAbx (addr16 : Word) : Statement (.andAbx addr16) := of_encode 0x3D [loByte addr16, hiByte addr16] rfl rfl (Nat.le_of_ble_eq_true rfl)

theorem oraIzx (zp8 : Byte) : Statement (.oraIzx zp8) := of_encode 0x01 [zp8] rfl rfl (Nat.le_of_ble_eq_true rfl)

theorem oraZp (zp8 : Byte) : Statement (.oraZp zp8) := of_encode 0x05 [zp8] rfl rfl (Nat.le_of_ble_eq_true rfl)

theorem oraImm (imm8 : Byte) : Statement (.oraImm imm8) := of_encode 0x09 [imm8] rfl rfl (Nat.le_of_ble_eq_true rfl)

theorem oraAbs (addr16 : Word) : Statement (.oraAbs addr16) := of_encode 0x0D [loByte addr16, hiByte addr16] rfl rfl (Nat.le_of_ble_eq_true rfl)

theorem oraIzy (zp8 : Byte) : Statement (.oraIzy zp8) := of_encode 0x11 [zp8] rfl rfl (Nat.le_of_ble_eq_true rfl)

theorem oraZpi (zp8 : Byte) : Statement (.oraZpi zp8) := of_encode 0x12 [zp8] rfl rfl (Nat.le_of_ble_eq_true rfl)

theorem oraZpx (zp8 : Byte) : Statement (.oraZpx zp8) := of_encode 0x15 [zp8] rfl rfl (Nat.le_of_ble_eq_true rfl)

theorem oraAby (addr16 : Word) : Statement (.oraAby addr16) := of_encode 0x19 [loByte addr16, hiByte addr16] rfl rfl (Nat.le_of_ble_eq_true rfl)

theorem oraAbx (addr16 : Word) : Statement (.oraAbx addr16) := of_encode 0x1D [loByte addr16, hiByte addr16] rfl rfl (Nat.le_of_ble_eq_true rfl)

theorem eorIzx (zp8 : Byte) : Statement (.eorIzx zp8) := of_encode 0x41 [zp8] rfl rfl (Nat.le_of_ble_eq_true rfl)

theorem eorZp (zp8 : Byte) : Statement (.eorZp zp8) := of_encode 0x45 [zp8] rfl rfl (Nat.le_of_ble_eq_true rfl)

theorem eorImm (imm8 : Byte) : Statement (.eorImm imm8) := of_encode 0x49 [imm8] rfl rfl (Nat.le_of_ble_eq_true rfl)

theorem eorAbs (addr16 : Word) : Statement (.eorAbs addr16) := of_encode 0x4D [loByte addr16, hiByte addr16] rfl rfl (Nat.le_of_ble_eq_true rfl)

theorem eorIzy (zp8 : Byte) : Statement (.eorIzy zp8) := of_encode 0x51 [zp8] rfl rfl (Nat.le_of_ble_eq_true rfl)

theorem eorZpi (zp8 : Byte) : Statement (.eorZpi zp8) := of_encode 0x52 [zp8] rfl rfl (Nat.le_of_ble_eq_true rfl)

theorem eorZpx (zp8 : Byte) : Statement (.eorZpx zp8) := of_encode 0x55 [zp8] rfl rfl (Nat.le_of_ble_eq_true rfl)

theorem eorAby (addr16 : Word) : Statement (.eorAby addr16) := of_encode 0x59 [loByte addr16, hiByte addr16] rfl rfl (Nat.le_of_ble_eq_true rfl)

theorem eorAbx (addr16 : Word) : Statement (.eorAbx addr16) := of_encode 0x5D [loByte addr16, hiByte addr16] rfl rfl (Nat.le_of_ble_eq_true rfl)

theorem bitZp (zp8 : Byte) : Statement (.bitZp zp8) := of_encode 0x24 [zp8] rfl rfl (Nat.le_of_ble_eq_true rfl)

theorem bitAbs (addr16 : Word) : Statement (.bitAbs addr16) := of_encode 0x2C [loByte addr16, hiByte addr16] rfl rfl (Nat.le_of_ble_eq_true rfl)

theorem bitZpx (zp8 : Byte) : Statement (.bitZpx zp8) := of_encode 0x34 [zp8] rfl rfl (Nat.le_of_ble_eq_true rfl)

theorem bitAbx (addr16 : Word) : Statement (.bitAbx addr16) := of_encode 0x3C [loByte addr16, hiByte addr16] rfl rfl (Nat.le_of_ble_eq_true rfl)

theorem bitImm (imm8 : Byte) : Statement (.bitImm imm8) := of_encode 0x89 [imm8] rfl rfl (Nat.le_of_ble_eq_true rfl)

theorem tsbZp (zp8 : Byte) : Statement (.tsbZp zp8) := of_encode 0x04 [zp8] rfl rfl (Nat.le_of_ble_eq_true rfl)

theorem tsbAbs (addr16 : Word) : Statement (.tsbAbs addr16) := of_encode 0x0C [loByte addr16, hiByte addr16] rfl rfl (Nat.le_of_ble_eq_true rfl)

theorem trbZp (zp8 : Byte) : Statement (.trbZp zp8) := of_encode 0x14 [zp8] rfl rfl (Nat.le_of_ble_eq_true rfl)

theorem trbAbs (addr16 : Word) : Statement (.trbAbs addr16) := of_encode 0x1C [loByte addr16, hiByte addr16] rfl rfl (Nat.le_of_ble_eq_true rfl)

theorem aslZp (zp8 : Byte) : Statement (.aslZp zp8) := of_encode 0x06 [zp8] rfl rfl (Nat.le_of_ble_eq_true rfl)

theorem aslAbs (addr16 : Word) : Statement (.aslAbs addr16) := of_encode 0x0E [loByte addr16, hiByte addr16] rfl rfl (Nat.le_of_ble_eq_true rfl)

theorem aslZpx (zp8 : Byte) : Statement (.aslZpx zp8) := of_encode 0x16 [zp8] rfl rfl (Nat.le_of_ble_eq_true rfl)

theorem aslAbx (addr16 : Word) : Statement (.aslAbx addr16) := of_encode 0x1E [loByte addr16, hiByte addr16] rfl rfl (Nat.le_of_ble_eq_true rfl)

theorem lsrZp (zp8 : Byte) : Statement (.lsrZp zp8) := of_encode 0x46 [zp8] rfl rfl (Nat.le_of_ble_eq_true rfl)

theorem lsrAbs (addr16 : Word) : Statement (.lsrAbs addr16) := of_encode 0x4E [loByte addr16, hiByte addr16] rfl rfl (Nat.le_of_ble_eq_true rfl)

theorem lsrZpx (zp8 : Byte) : Statement (.lsrZpx zp8) := of_encode 0x56 [zp8] rfl rfl (Nat.le_of_ble_eq_true rfl)

theorem lsrAbx (addr16 : Word) : Statement (.lsrAbx addr16) := of_encode 0x5E [loByte addr16, hiByte addr16] rfl rfl (Nat.le_of_ble_eq_true rfl)

theorem rolZp (zp8 : Byte) : Statement (.rolZp zp8) := of_encode 0x26 [zp8] rfl rfl (Nat.le_of_ble_eq_true rfl)

theorem rolAbs (addr16 : Word) : Statement (.rolAbs addr16) := of_encode 0x2E [loByte addr16, hiByte addr16] rfl rfl (Nat.le_of_ble_eq_true rfl)

theorem rolZpx (zp8 : Byte) : Statement (.rolZpx zp8) := of_encode 0x36 [zp8] rfl rfl (Nat.le_of_ble_eq_true rfl)

theorem rolAbx (addr16 : Word) : Statement (.rolAbx addr16) := of_encode 0x3E [loByte addr16, hiByte addr16] rfl rfl (Nat.le_of_ble_eq_true rfl)

theorem rorZp (zp8 : Byte) : Statement (.rorZp zp8) := of_encode 0x66 [zp8] rfl rfl (Nat.le_of_ble_eq_true rfl)

theorem rorAbs (addr16 : Word) : Statement (.rorAbs addr16) := of_encode 0x6E [loByte addr16, hiByte addr16] rfl rfl (Nat.le_of_ble_eq_true rfl)

theorem rorZpx (zp8 : Byte) : Statement (.rorZpx zp8) := of_encode 0x76 [zp8] rfl rfl (Nat.le_of_ble_eq_true rfl)

theorem rorAbx (addr16 : Word) : Statement (.rorAbx addr16) := of_encode 0x7E [loByte addr16, hiByte addr16] rfl rfl (Nat.le_of_ble_eq_true rfl)

theorem rmb0 (zp8 : Byte) : Statement (.rmb0 zp8) := of_encode 0x07 [zp8] rfl rfl (Nat.le_of_ble_eq_true rfl)

theorem rmb1 (zp8 : Byte) : Statement (.rmb1 zp8) := of_encode 0x17 [zp8] rfl rfl (Nat.le_of_ble_eq_true rfl)

theorem rmb2 (zp8 : Byte) : Statement (.rmb2 zp8) := of_encode 0x27 [zp8] rfl rfl (Nat.le_of_ble_eq_true rfl)

theorem rmb3 (zp8 : Byte) : Statement (.rmb3 zp8) := of_encode 0x37 [zp8] rfl rfl (Nat.le_of_ble_eq_true rfl)

theorem rmb4 (zp8 : Byte) : Statement (.rmb4 zp8) := of_encode 0x47 [zp8] rfl rfl (Nat.le_of_ble_eq_true rfl)

theorem rmb5 (zp8 : Byte) : Statement (.rmb5 zp8) := of_encode 0x57 [zp8] rfl rfl (Nat.le_of_ble_eq_true rfl)

theorem rmb6 (zp8 : Byte) : Statement (.rmb6 zp8) := of_encode 0x67 [zp8] rfl rfl (Nat.le_of_ble_eq_true rfl)

theorem rmb7 (zp8 : Byte) : Statement (.rmb7 zp8) := of_encode 0x77 [zp8] rfl rfl (Nat.le_of_ble_eq_true rfl)

theorem smb0 (zp8 : Byte) : Statement (.smb0 zp8) := of_encode 0x87 [zp8] rfl rfl (Nat.le_of_ble_eq_true rfl)

theorem smb1 (zp8 : Byte) : Statement (.smb1 zp8) := of_encode 0x97 [zp8] rfl rfl (Nat.le_of_ble_eq_true rfl)

theorem smb2 (zp8 : Byte) : Statement (.smb2 zp8) := of_encode 0xA7 [zp8] rfl rfl (Nat.le_of_ble_eq_true rfl)

theorem smb3 (zp8 : Byte) : Statement (.smb3 zp8) := of_encode 0xB7 [zp8] rfl rfl (Nat.le_of_ble_eq_true rfl)

theorem smb4 (zp8 : Byte) : Statement (.smb4 zp8) := of_encode 0xC7 [zp8] rfl rfl (Nat.le_of_ble_eq_true rfl)

theorem smb5 (zp8 : Byte) : Statement (.smb5 zp8) := of_encode 0xD7 [zp8] rfl rfl (Nat.le_of_ble_eq_true rfl)

theorem smb6 (zp8 : Byte) : Statement (.smb6 zp8) := of_encode 0xE7 [zp8] rfl rfl (Nat.le_of_ble_eq_true rfl)

theorem smb7 (zp8 : Byte) : Statement (.smb7 zp8) := of_encode 0xF7 [zp8] rfl rfl (Nat.le_of_ble_eq_true rfl)

theorem jmpAbs (addr16 : Word) : Statement (.jmpAbs addr16) := of_encode 0x4C [loByte addr16, hiByte addr16] rfl rfl (Nat.le_of_ble_eq_true rfl)

theorem jmpInd (addr16 : Word) : Statement (.jmpInd addr16) := of_encode 0x6C [loByte addr16, hiByte addr16] rfl rfl (Nat.le_of_ble_eq_true rfl)

theorem jmpIax (addr16 : Word) : Statement (.jmpIax addr16) := of_encode 0x7C [loByte addr16, hiByte addr16] rfl rfl (Nat.le_of_ble_eq_true rfl)

theorem jsr (addr16 : Word) : Statement (.jsr addr16) := of_encode 0x20 [loByte addr16, hiByte addr16] rfl rfl (Nat.le_of_ble_eq_true rfl)

theorem bpl (rel8 : Byte) : Statement (.bpl rel8) := of_encode 0x10 [rel8] rfl rfl (Nat.le_of_ble_eq_true rfl)

theorem bmi (rel8 : Byte) : Statement (.bmi rel8) := of_encode 0x30 [rel8] rfl rfl (Nat.le_of_ble_eq_true rfl)

theorem bvc (rel8 : Byte) : Statement (.bvc rel8) := of_encode 0x50 [rel8] rfl rfl (Nat.le_of_ble_eq_true rfl)

theorem bvs (rel8 : Byte) : Statement (.bvs rel8) := of_encode 0x70 [rel8] rfl rfl (Nat.le_of_ble_eq_true rfl)

theorem bcc (rel8 : Byte) : Statement (.bcc rel8) := of_encode 0x90 [rel8] rfl rfl (Nat.le_of_ble_eq_true rfl)

theorem bcs (rel8 : Byte) : Statement (.bcs rel8) := of_encode 0xB0 [rel8] rfl rfl (Nat.le_of_ble_eq_true rfl)

theorem bne (rel8 : Byte) : Statement (.bne rel8) := of_encode 0xD0 [rel8] rfl rfl (Nat.le_of_ble_eq_true rfl)

theorem beq (rel8 : Byte) : Statement (.beq rel8) := of_encode 0xF0 [rel8] rfl rfl (Nat.le_of_ble_eq_true rfl)

theorem bra (rel8 : Byte) : Statement (.bra rel8) := of_encode 0x80 [rel8] rfl rfl (Nat.le_of_ble_eq_true rfl)

theorem bbr0 (zp8 : Byte) (rel8 : Byte) : Statement (.bbr0 zp8 rel8) := of_encode 0x0F [zp8, rel8] rfl rfl (Nat.le_of_ble_eq_true rfl)

theorem bbr1 (zp8 : Byte) (rel8 : Byte) : Statement (.bbr1 zp8 rel8) := of_encode 0x1F [zp8, rel8] rfl rfl (Nat.le_of_ble_eq_true rfl)

theorem bbr2 (zp8 : Byte) (rel8 : Byte) : Statement (.bbr2 zp8 rel8) := of_encode 0x2F [zp8, rel8] rfl rfl (Nat.le_of_ble_eq_true rfl)

theorem bbr3 (zp8 : Byte) (rel8 : Byte) : Statement (.bbr3 zp8 rel8) := of_encode 0x3F [zp8, rel8] rfl rfl (Nat.le_of_ble_eq_true rfl)

theorem bbr4 (zp8 : Byte) (rel8 : Byte) : Statement (.bbr4 zp8 rel8) := of_encode 0x4F [zp8, rel8] rfl rfl (Nat.le_of_ble_eq_true rfl)

theorem bbr5 (zp8 : Byte) (rel8 : Byte) : Statement (.bbr5 zp8 rel8) := of_encode 0x5F [zp8, rel8] rfl rfl (Nat.le_of_ble_eq_true rfl)

theorem bbr6 (zp8 : Byte) (rel8 : Byte) : Statement (.bbr6 zp8 rel8) := of_encode 0x6F [zp8, rel8] rfl rfl (Nat.le_of_ble_eq_true rfl)

theorem bbr7 (zp8 : Byte) (rel8 : Byte) : Statement (.bbr7 zp8 rel8) := of_encode 0x7F [zp8, rel8] rfl rfl (Nat.le_of_ble_eq_true rfl)

theorem bbs0 (zp8 : Byte) (rel8 : Byte) : Statement (.bbs0 zp8 rel8) := of_encode 0x8F [zp8, rel8] rfl rfl (Nat.le_of_ble_eq_true rfl)

theorem bbs1 (zp8 : Byte) (rel8 : Byte) : Statement (.bbs1 zp8 rel8) := of_encode 0x9F [zp8, rel8] rfl rfl (Nat.le_of_ble_eq_true rfl)

theorem bbs2 (zp8 : Byte) (rel8 : Byte) : Statement (.bbs2 zp8 rel8) := of_encode 0xAF [zp8, rel8] rfl rfl (Nat.le_of_ble_eq_true rfl)

theorem bbs3 (zp8 : Byte) (rel8 : Byte) : Statement (.bbs3 zp8 rel8) := of_encode 0xBF [zp8, rel8] rfl rfl (Nat.le_of_ble_eq_true rfl)

theorem bbs4 (zp8 : Byte) (rel8 : Byte) : Statement (.bbs4 zp8 rel8) := of_encode 0xCF [zp8, rel8] rfl rfl (Nat.le_of_ble_eq_true rfl)

theorem bbs5 (zp8 : Byte) (rel8 : Byte) : Statement (.bbs5 zp8 rel8) := of_encode 0xDF [zp8, rel8] rfl rfl (Nat.le_of_ble_eq_true rfl)

theorem bbs6 (zp8 : Byte) (rel8 : Byte) : Statement (.bbs6 zp8 rel8) := of_encode 0xEF [zp8, rel8] rfl rfl (Nat.le_of_ble_eq_true rfl)

theorem bbs7 (zp8 : Byte) (rel8 : Byte) : Statement (.bbs7 zp8 rel8) := of_encode 0xFF [zp8, rel8] rfl rfl (Nat.le_of_ble_eq_true rfl)

theorem nop02 (ignored8 : Byte) : Statement (.nop02 ignored8) := of_encode 0x02 [ignored8] rfl rfl (Nat.le_of_ble_eq_true rfl)

theorem nop22 (ignored8 : Byte) : Statement (.nop22 ignored8) := of_encode 0x22 [ignored8] rfl rfl (Nat.le_of_ble_eq_true rfl)

theorem nop42 (ignored8 : Byte) : Statement (.nop42 ignored8) := of_encode 0x42 [ignored8] rfl rfl (Nat.le_of_ble_eq_true rfl)

theorem nop62 (ignored8 : Byte) : Statement (.nop62 ignored8) := of_encode 0x62 [ignored8] rfl rfl (Nat.le_of_ble_eq_true rfl)

theorem nop82 (ignored8 : Byte) : Statement (.nop82 ignored8) := of_encode 0x82 [ignored8] rfl rfl (Nat.le_of_ble_eq_true rfl)

theorem nopC2 (ignored8 : Byte) : Statement (.nopC2 ignored8) := of_encode 0xC2 [ignored8] rfl rfl (Nat.le_of_ble_eq_true rfl)

theorem nopE2 (ignored8 : Byte) : Statement (.nopE2 ignored8) := of_encode 0xE2 [ignored8] rfl rfl (Nat.le_of_ble_eq_true rfl)

theorem nop44 (ignored8 : Byte) : Statement (.nop44 ignored8) := of_encode 0x44 [ignored8] rfl rfl (Nat.le_of_ble_eq_true rfl)

theorem nop54 (ignored8 : Byte) : Statement (.nop54 ignored8) := of_encode 0x54 [ignored8] rfl rfl (Nat.le_of_ble_eq_true rfl)

theorem nopD4 (ignored8 : Byte) : Statement (.nopD4 ignored8) := of_encode 0xD4 [ignored8] rfl rfl (Nat.le_of_ble_eq_true rfl)

theorem nopF4 (ignored8 : Byte) : Statement (.nopF4 ignored8) := of_encode 0xF4 [ignored8] rfl rfl (Nat.le_of_ble_eq_true rfl)

theorem nop5C (ignored16 : Word) : Statement (.nop5C ignored16) := of_encode 0x5C [loByte ignored16, hiByte ignored16] rfl rfl (Nat.le_of_ble_eq_true rfl)

theorem nopDC (ignored16 : Word) : Statement (.nopDC ignored16) := of_encode 0xDC [loByte ignored16, hiByte ignored16] rfl rfl (Nat.le_of_ble_eq_true rfl)

theorem nopFC (ignored16 : Word) : Statement (.nopFC ignored16) := of_encode 0xFC [loByte ignored16, hiByte ignored16] rfl rfl (Nat.le_of_ble_eq_true rfl)

theorem tax : Statement (.tax) := of_encode 0xAA [] rfl rfl (Nat.le_of_ble_eq_true rfl)

theorem tay : Statement (.tay) := of_encode 0xA8 [] rfl rfl (Nat.le_of_ble_eq_true rfl)

theorem txa : Statement (.txa) := of_encode 0x8A [] rfl rfl (Nat.le_of_ble_eq_true rfl)

theorem tya : Statement (.tya) := of_encode 0x98 [] rfl rfl (Nat.le_of_ble_eq_true rfl)

theorem tsx : Statement (.tsx) := of_encode 0xBA [] rfl rfl (Nat.le_of_ble_eq_true rfl)

theorem txs : Statement (.txs) := of_encode 0x9A [] rfl rfl (Nat.le_of_ble_eq_true rfl)

theorem php : Statement (.php) := of_encode 0x08 [] rfl rfl (Nat.le_of_ble_eq_true rfl)

theorem pha : Statement (.pha) := of_encode 0x48 [] rfl rfl (Nat.le_of_ble_eq_true rfl)

theorem phx : Statement (.phx) := of_encode 0xDA [] rfl rfl (Nat.le_of_ble_eq_true rfl)

theorem phy : Statement (.phy) := of_encode 0x5A [] rfl rfl (Nat.le_of_ble_eq_true rfl)

theorem pla : Statement (.pla) := of_encode 0x68 [] rfl rfl (Nat.le_of_ble_eq_true rfl)

theorem plp : Statement (.plp) := of_encode 0x28 [] rfl rfl (Nat.le_of_ble_eq_true rfl)

theorem plx : Statement (.plx) := of_encode 0xFA [] rfl rfl (Nat.le_of_ble_eq_true rfl)

theorem ply : Statement (.ply) := of_encode 0x7A [] rfl rfl (Nat.le_of_ble_eq_true rfl)

theorem incAcc : Statement (.incAcc) := of_encode 0x1A [] rfl rfl (Nat.le_of_ble_eq_true rfl)

theorem decAcc : Statement (.decAcc) := of_encode 0x3A [] rfl rfl (Nat.le_of_ble_eq_true rfl)

theorem inx : Statement (.inx) := of_encode 0xE8 [] rfl rfl (Nat.le_of_ble_eq_true rfl)

theorem iny : Statement (.iny) := of_encode 0xC8 [] rfl rfl (Nat.le_of_ble_eq_true rfl)

theorem dex : Statement (.dex) := of_encode 0xCA [] rfl rfl (Nat.le_of_ble_eq_true rfl)

theorem dey : Statement (.dey) := of_encode 0x88 [] rfl rfl (Nat.le_of_ble_eq_true rfl)

theorem aslAcc : Statement (.aslAcc) := of_encode 0x0A [] rfl rfl (Nat.le_of_ble_eq_true rfl)

theorem lsrAcc : Statement (.lsrAcc) := of_encode 0x4A [] rfl rfl (Nat.le_of_ble_eq_true rfl)

theorem rolAcc : Statement (.rolAcc) := of_encode 0x2A [] rfl rfl (Nat.le_of_ble_eq_true rfl)

theorem rorAcc : Statement (.rorAcc) := of_encode 0x6A [] rfl rfl (Nat.le_of_ble_eq_true rfl)

theorem rts : Statement (.rts) := of_encode 0x60 [] rfl rfl (Nat.le_of_ble_eq_true rfl)

theorem rti : Statement (.rti) := of_encode 0x40 [] rfl rfl (Nat.le_of_ble_eq_true rfl)

theorem brk : Statement (.brk) := of_encode 0x00 [] rfl rfl (Nat.le_of_ble_eq_true rfl)

theorem clc : Statement (.clc) := of_encode 0x18 [] rfl rfl (Nat.le_of_ble_eq_true rfl)

theorem sec : Statement (.sec) := of_encode 0x38 [] rfl rfl (Nat.le_of_ble_eq_true rfl)

theorem cli : Statement (.cli) := of_encode 0x58 [] rfl rfl (Nat.le_of_ble_eq_true rfl)

theorem sei : Statement (.sei) := of_encode 0x78 [] rfl rfl (Nat.le_of_ble_eq_true rfl)

theorem cld : Statement (.cld) := of_encode 0xD8 [] rfl rfl (Nat.le_of_ble_eq_true rfl)

theorem sed : Statement (.sed) := of_encode 0xF8 [] rfl rfl (Nat.le_of_ble_eq_true rfl)

theorem clv : Statement (.clv) := of_encode 0xB8 [] rfl rfl (Nat.le_of_ble_eq_true rfl)

theorem nop03 : Statement (.nop03) := of_encode 0x03 [] rfl rfl (Nat.le_of_ble_eq_true rfl)

theorem nop0B : Statement (.nop0B) := of_encode 0x0B [] rfl rfl (Nat.le_of_ble_eq_true rfl)

theorem nop13 : Statement (.nop13) := of_encode 0x13 [] rfl rfl (Nat.le_of_ble_eq_true rfl)

theorem nop1B : Statement (.nop1B) := of_encode 0x1B [] rfl rfl (Nat.le_of_ble_eq_true rfl)

theorem nop23 : Statement (.nop23) := of_encode 0x23 [] rfl rfl (Nat.le_of_ble_eq_true rfl)

theorem nop2B : Statement (.nop2B) := of_encode 0x2B [] rfl rfl (Nat.le_of_ble_eq_true rfl)

theorem nop33 : Statement (.nop33) := of_encode 0x33 [] rfl rfl (Nat.le_of_ble_eq_true rfl)

theorem nop3B : Statement (.nop3B) := of_encode 0x3B [] rfl rfl (Nat.le_of_ble_eq_true rfl)

theorem nop43 : Statement (.nop43) := of_encode 0x43 [] rfl rfl (Nat.le_of_ble_eq_true rfl)

theorem nop4B : Statement (.nop4B) := of_encode 0x4B [] rfl rfl (Nat.le_of_ble_eq_true rfl)

theorem nop53 : Statement (.nop53) := of_encode 0x53 [] rfl rfl (Nat.le_of_ble_eq_true rfl)

theorem nop5B : Statement (.nop5B) := of_encode 0x5B [] rfl rfl (Nat.le_of_ble_eq_true rfl)

theorem nop63 : Statement (.nop63) := of_encode 0x63 [] rfl rfl (Nat.le_of_ble_eq_true rfl)

theorem nop6B : Statement (.nop6B) := of_encode 0x6B [] rfl rfl (Nat.le_of_ble_eq_true rfl)

theorem nop73 : Statement (.nop73) := of_encode 0x73 [] rfl rfl (Nat.le_of_ble_eq_true rfl)

theorem nop7B : Statement (.nop7B) := of_encode 0x7B [] rfl rfl (Nat.le_of_ble_eq_true rfl)

theorem nop83 : Statement (.nop83) := of_encode 0x83 [] rfl rfl (Nat.le_of_ble_eq_true rfl)

theorem nop8B : Statement (.nop8B) := of_encode 0x8B [] rfl rfl (Nat.le_of_ble_eq_true rfl)

theorem nop93 : Statement (.nop93) := of_encode 0x93 [] rfl rfl (Nat.le_of_ble_eq_true rfl)

theorem nop9B : Statement (.nop9B) := of_encode 0x9B [] rfl rfl (Nat.le_of_ble_eq_true rfl)

theorem nopA3 : Statement (.nopA3) := of_encode 0xA3 [] rfl rfl (Nat.le_of_ble_eq_true rfl)

theorem nopAB : Statement (.nopAB) := of_encode 0xAB [] rfl rfl (Nat.le_of_ble_eq_true rfl)

theorem nopB3 : Statement (.nopB3) := of_encode 0xB3 [] rfl rfl (Nat.le_of_ble_eq_true rfl)

theorem nopBB : Statement (.nopBB) := of_encode 0xBB [] rfl rfl (Nat.le_of_ble_eq_true rfl)

theorem nopC3 : Statement (.nopC3) := of_encode 0xC3 [] rfl rfl (Nat.le_of_ble_eq_true rfl)

theorem nopD3 : Statement (.nopD3) := of_encode 0xD3 [] rfl rfl (Nat.le_of_ble_eq_true rfl)

theorem nopE3 : Statement (.nopE3) := of_encode 0xE3 [] rfl rfl (Nat.le_of_ble_eq_true rfl)

theorem nopEB : Statement (.nopEB) := of_encode 0xEB [] rfl rfl (Nat.le_of_ble_eq_true rfl)

theorem nopF3 : Statement (.nopF3) := of_encode 0xF3 [] rfl rfl (Nat.le_of_ble_eq_true rfl)

theorem nopFB : Statement (.nopFB) := of_encode 0xFB [] rfl rfl (Nat.le_of_ble_eq_true rfl)

theorem nop : Statement (.nop) := of_encode 0xEA [] rfl rfl (Nat.le_of_ble_eq_true rfl)

theorem wai : Statement (.wai) := of_encode 0xCB [] rfl rfl (Nat.le_of_ble_eq_true rfl)

theorem stp : Statement (.stp) := of_encode 0xDB [] rfl rfl (Nat.le_of_ble_eq_true rfl)

end Sys2Proof.Laws.Layout
end

