-- ==== Sys2Proof/Tests/Slice0.lean ====
section
/-! SUPPORT. Tests: the words of the opcode map, the vectors of spec/95_test_vectors.md, a few single accesses and host calls, and for every
statement that has hypotheses a witness that meets them. `Instr.wellFormed` makes no check (30 R142, R147), so no ill-formed term exists to
try; the ill-formed terms tried here are memories. -/

namespace Sys2Proof.Tests

open Sys2Proof.Machine Sys2Proof.Claims

/-- The words decode to the instructions, nothing left over, and the instructions encode to the words. -/
def codedAs (l : List (List Byte × Instr)) : Bool :=
  l.all fun p =>
    (match decode p.1 with
     | .ok (i, []) => decide (i = p.2)
     | _ => false) && decide (encode p.2 = p.1)

/-- The registers of a vector: A X Y SP P PC. -/
structure Regs where
  a : Byte
  x : Byte
  y : Byte
  sp : Byte
  p : Byte
  pc : Word
  deriving DecidableEq, Repr

/-- A vector of spec/95: the bytes at PC, the start, the listed memory and ROM bytes, the end, the changed memory, the mode, the cycles. -/
structure Vec where
  bytes : List Byte
  start : Regs
  mem : List Host.Cell
  rom : List Host.Cell
  stop : Regs
  changed : List Host.Cell
  mode : Mode
  cycles : Nat

/-- Bytes stored into an array one by one. -/
def put (cells : List Host.Cell) (m : Memory) : Memory := cells.foldl (fun m c => m.store c.1 c.2) m

/-- The bytes of an instruction at consecutive addresses. -/
def at_ (pc : Word) (bytes : List Byte) : List Host.Cell := bytes.zipIdx.map fun b => (pc.toNat + b.2, b.1)

/-- The power-on state with these registers, MAIN and ROM bytes. -/
def machine (r : Regs) (main rom : List Host.Cell) : State :=
  { State.powerOn with
    a := r.a, x := r.x, y := r.y, sp := r.sp, pc := r.pc, p := Status.unpack r.p
    ram := { State.powerOn.ram with main := put main [] }, rom := put rom [] }

def regsOf (s : State) : Regs := ⟨s.a, s.x, s.y, s.sp, s.p.pack, s.pc⟩

/-- One step from the start gives the end: registers, memory, mode, cycles. -/
def Vec.holds (v : Vec) : Bool :=
  let main := at_ v.start.pc v.bytes ++ v.mem
  match step (machine v.start main v.rom) with
  | .next t => decide (regsOf t = v.stop) && decide (t.ram.main = put (main ++ v.changed) []) && decide (t.mode = v.mode) &&
      decide (t.ticks = BitVec.ofNat 64 v.cycles)
  | _ => false


/-! Decoding: every row of the opcode map (30 R144), its operand bytes 34 12 where it has them (R142: low byte first). -/

theorem test_decode_row0 : codedAs [
    ([0x00], .brk), ([0x01, 0x34], .oraIzx 0x34), ([0x02, 0x34], .nop02 0x34),
    ([0x03], .nop03), ([0x04, 0x34], .tsbZp 0x34), ([0x05, 0x34], .oraZp 0x34),
    ([0x06, 0x34], .aslZp 0x34), ([0x07, 0x34], .rmb0 0x34), ([0x08], .php),
    ([0x09, 0x34], .oraImm 0x34), ([0x0A], .aslAcc), ([0x0B], .nop0B),
    ([0x0C, 0x34, 0x12], .tsbAbs 0x1234), ([0x0D, 0x34, 0x12], .oraAbs 0x1234), ([0x0E, 0x34, 0x12], .aslAbs 0x1234),
    ([0x0F, 0x34, 0x12], .bbr0 0x34 0x12)] = true := by
  decide +kernel

theorem test_decode_row1 : codedAs [
    ([0x10, 0x34], .bpl 0x34), ([0x11, 0x34], .oraIzy 0x34), ([0x12, 0x34], .oraZpi 0x34),
    ([0x13], .nop13), ([0x14, 0x34], .trbZp 0x34), ([0x15, 0x34], .oraZpx 0x34),
    ([0x16, 0x34], .aslZpx 0x34), ([0x17, 0x34], .rmb1 0x34), ([0x18], .clc),
    ([0x19, 0x34, 0x12], .oraAby 0x1234), ([0x1A], .incAcc), ([0x1B], .nop1B),
    ([0x1C, 0x34, 0x12], .trbAbs 0x1234), ([0x1D, 0x34, 0x12], .oraAbx 0x1234), ([0x1E, 0x34, 0x12], .aslAbx 0x1234),
    ([0x1F, 0x34, 0x12], .bbr1 0x34 0x12)] = true := by
  decide +kernel

theorem test_decode_row2 : codedAs [
    ([0x20, 0x34, 0x12], .jsr 0x1234), ([0x21, 0x34], .andIzx 0x34), ([0x22, 0x34], .nop22 0x34),
    ([0x23], .nop23), ([0x24, 0x34], .bitZp 0x34), ([0x25, 0x34], .andZp 0x34),
    ([0x26, 0x34], .rolZp 0x34), ([0x27, 0x34], .rmb2 0x34), ([0x28], .plp),
    ([0x29, 0x34], .andImm 0x34), ([0x2A], .rolAcc), ([0x2B], .nop2B),
    ([0x2C, 0x34, 0x12], .bitAbs 0x1234), ([0x2D, 0x34, 0x12], .andAbs 0x1234), ([0x2E, 0x34, 0x12], .rolAbs 0x1234),
    ([0x2F, 0x34, 0x12], .bbr2 0x34 0x12)] = true := by
  decide +kernel

theorem test_decode_row3 : codedAs [
    ([0x30, 0x34], .bmi 0x34), ([0x31, 0x34], .andIzy 0x34), ([0x32, 0x34], .andZpi 0x34),
    ([0x33], .nop33), ([0x34, 0x34], .bitZpx 0x34), ([0x35, 0x34], .andZpx 0x34),
    ([0x36, 0x34], .rolZpx 0x34), ([0x37, 0x34], .rmb3 0x34), ([0x38], .sec),
    ([0x39, 0x34, 0x12], .andAby 0x1234), ([0x3A], .decAcc), ([0x3B], .nop3B),
    ([0x3C, 0x34, 0x12], .bitAbx 0x1234), ([0x3D, 0x34, 0x12], .andAbx 0x1234), ([0x3E, 0x34, 0x12], .rolAbx 0x1234),
    ([0x3F, 0x34, 0x12], .bbr3 0x34 0x12)] = true := by
  decide +kernel

theorem test_decode_row4 : codedAs [
    ([0x40], .rti), ([0x41, 0x34], .eorIzx 0x34), ([0x42, 0x34], .nop42 0x34),
    ([0x43], .nop43), ([0x44, 0x34], .nop44 0x34), ([0x45, 0x34], .eorZp 0x34),
    ([0x46, 0x34], .lsrZp 0x34), ([0x47, 0x34], .rmb4 0x34), ([0x48], .pha),
    ([0x49, 0x34], .eorImm 0x34), ([0x4A], .lsrAcc), ([0x4B], .nop4B),
    ([0x4C, 0x34, 0x12], .jmpAbs 0x1234), ([0x4D, 0x34, 0x12], .eorAbs 0x1234), ([0x4E, 0x34, 0x12], .lsrAbs 0x1234),
    ([0x4F, 0x34, 0x12], .bbr4 0x34 0x12)] = true := by
  decide +kernel

theorem test_decode_row5 : codedAs [
    ([0x50, 0x34], .bvc 0x34), ([0x51, 0x34], .eorIzy 0x34), ([0x52, 0x34], .eorZpi 0x34),
    ([0x53], .nop53), ([0x54, 0x34], .nop54 0x34), ([0x55, 0x34], .eorZpx 0x34),
    ([0x56, 0x34], .lsrZpx 0x34), ([0x57, 0x34], .rmb5 0x34), ([0x58], .cli),
    ([0x59, 0x34, 0x12], .eorAby 0x1234), ([0x5A], .phy), ([0x5B], .nop5B),
    ([0x5C, 0x34, 0x12], .nop5C 0x1234), ([0x5D, 0x34, 0x12], .eorAbx 0x1234), ([0x5E, 0x34, 0x12], .lsrAbx 0x1234),
    ([0x5F, 0x34, 0x12], .bbr5 0x34 0x12)] = true := by
  decide +kernel

theorem test_decode_row6 : codedAs [
    ([0x60], .rts), ([0x61, 0x34], .adcIzx 0x34), ([0x62, 0x34], .nop62 0x34),
    ([0x63], .nop63), ([0x64, 0x34], .stzZp 0x34), ([0x65, 0x34], .adcZp 0x34),
    ([0x66, 0x34], .rorZp 0x34), ([0x67, 0x34], .rmb6 0x34), ([0x68], .pla),
    ([0x69, 0x34], .adcImm 0x34), ([0x6A], .rorAcc), ([0x6B], .nop6B),
    ([0x6C, 0x34, 0x12], .jmpInd 0x1234), ([0x6D, 0x34, 0x12], .adcAbs 0x1234), ([0x6E, 0x34, 0x12], .rorAbs 0x1234),
    ([0x6F, 0x34, 0x12], .bbr6 0x34 0x12)] = true := by
  decide +kernel

theorem test_decode_row7 : codedAs [
    ([0x70, 0x34], .bvs 0x34), ([0x71, 0x34], .adcIzy 0x34), ([0x72, 0x34], .adcZpi 0x34),
    ([0x73], .nop73), ([0x74, 0x34], .stzZpx 0x34), ([0x75, 0x34], .adcZpx 0x34),
    ([0x76, 0x34], .rorZpx 0x34), ([0x77, 0x34], .rmb7 0x34), ([0x78], .sei),
    ([0x79, 0x34, 0x12], .adcAby 0x1234), ([0x7A], .ply), ([0x7B], .nop7B),
    ([0x7C, 0x34, 0x12], .jmpIax 0x1234), ([0x7D, 0x34, 0x12], .adcAbx 0x1234), ([0x7E, 0x34, 0x12], .rorAbx 0x1234),
    ([0x7F, 0x34, 0x12], .bbr7 0x34 0x12)] = true := by
  decide +kernel

theorem test_decode_row8 : codedAs [
    ([0x80, 0x34], .bra 0x34), ([0x81, 0x34], .staIzx 0x34), ([0x82, 0x34], .nop82 0x34),
    ([0x83], .nop83), ([0x84, 0x34], .styZp 0x34), ([0x85, 0x34], .staZp 0x34),
    ([0x86, 0x34], .stxZp 0x34), ([0x87, 0x34], .smb0 0x34), ([0x88], .dey),
    ([0x89, 0x34], .bitImm 0x34), ([0x8A], .txa), ([0x8B], .nop8B),
    ([0x8C, 0x34, 0x12], .styAbs 0x1234), ([0x8D, 0x34, 0x12], .staAbs 0x1234), ([0x8E, 0x34, 0x12], .stxAbs 0x1234),
    ([0x8F, 0x34, 0x12], .bbs0 0x34 0x12)] = true := by
  decide +kernel

theorem test_decode_row9 : codedAs [
    ([0x90, 0x34], .bcc 0x34), ([0x91, 0x34], .staIzy 0x34), ([0x92, 0x34], .staZpi 0x34),
    ([0x93], .nop93), ([0x94, 0x34], .styZpx 0x34), ([0x95, 0x34], .staZpx 0x34),
    ([0x96, 0x34], .stxZpy 0x34), ([0x97, 0x34], .smb1 0x34), ([0x98], .tya),
    ([0x99, 0x34, 0x12], .staAby 0x1234), ([0x9A], .txs), ([0x9B], .nop9B),
    ([0x9C, 0x34, 0x12], .stzAbs 0x1234), ([0x9D, 0x34, 0x12], .staAbx 0x1234), ([0x9E, 0x34, 0x12], .stzAbx 0x1234),
    ([0x9F, 0x34, 0x12], .bbs1 0x34 0x12)] = true := by
  decide +kernel

theorem test_decode_rowA : codedAs [
    ([0xA0, 0x34], .ldyImm 0x34), ([0xA1, 0x34], .ldaIzx 0x34), ([0xA2, 0x34], .ldxImm 0x34),
    ([0xA3], .nopA3), ([0xA4, 0x34], .ldyZp 0x34), ([0xA5, 0x34], .ldaZp 0x34),
    ([0xA6, 0x34], .ldxZp 0x34), ([0xA7, 0x34], .smb2 0x34), ([0xA8], .tay),
    ([0xA9, 0x34], .ldaImm 0x34), ([0xAA], .tax), ([0xAB], .nopAB),
    ([0xAC, 0x34, 0x12], .ldyAbs 0x1234), ([0xAD, 0x34, 0x12], .ldaAbs 0x1234), ([0xAE, 0x34, 0x12], .ldxAbs 0x1234),
    ([0xAF, 0x34, 0x12], .bbs2 0x34 0x12)] = true := by
  decide +kernel

theorem test_decode_rowB : codedAs [
    ([0xB0, 0x34], .bcs 0x34), ([0xB1, 0x34], .ldaIzy 0x34), ([0xB2, 0x34], .ldaZpi 0x34),
    ([0xB3], .nopB3), ([0xB4, 0x34], .ldyZpx 0x34), ([0xB5, 0x34], .ldaZpx 0x34),
    ([0xB6, 0x34], .ldxZpy 0x34), ([0xB7, 0x34], .smb3 0x34), ([0xB8], .clv),
    ([0xB9, 0x34, 0x12], .ldaAby 0x1234), ([0xBA], .tsx), ([0xBB], .nopBB),
    ([0xBC, 0x34, 0x12], .ldyAbx 0x1234), ([0xBD, 0x34, 0x12], .ldaAbx 0x1234), ([0xBE, 0x34, 0x12], .ldxAby 0x1234),
    ([0xBF, 0x34, 0x12], .bbs3 0x34 0x12)] = true := by
  decide +kernel

theorem test_decode_rowC : codedAs [
    ([0xC0, 0x34], .cpyImm 0x34), ([0xC1, 0x34], .cmpIzx 0x34), ([0xC2, 0x34], .nopC2 0x34),
    ([0xC3], .nopC3), ([0xC4, 0x34], .cpyZp 0x34), ([0xC5, 0x34], .cmpZp 0x34),
    ([0xC6, 0x34], .decZp 0x34), ([0xC7, 0x34], .smb4 0x34), ([0xC8], .iny),
    ([0xC9, 0x34], .cmpImm 0x34), ([0xCA], .dex), ([0xCB], .wai),
    ([0xCC, 0x34, 0x12], .cpyAbs 0x1234), ([0xCD, 0x34, 0x12], .cmpAbs 0x1234), ([0xCE, 0x34, 0x12], .decAbs 0x1234),
    ([0xCF, 0x34, 0x12], .bbs4 0x34 0x12)] = true := by
  decide +kernel

theorem test_decode_rowD : codedAs [
    ([0xD0, 0x34], .bne 0x34), ([0xD1, 0x34], .cmpIzy 0x34), ([0xD2, 0x34], .cmpZpi 0x34),
    ([0xD3], .nopD3), ([0xD4, 0x34], .nopD4 0x34), ([0xD5, 0x34], .cmpZpx 0x34),
    ([0xD6, 0x34], .decZpx 0x34), ([0xD7, 0x34], .smb5 0x34), ([0xD8], .cld),
    ([0xD9, 0x34, 0x12], .cmpAby 0x1234), ([0xDA], .phx), ([0xDB], .stp),
    ([0xDC, 0x34, 0x12], .nopDC 0x1234), ([0xDD, 0x34, 0x12], .cmpAbx 0x1234), ([0xDE, 0x34, 0x12], .decAbx 0x1234),
    ([0xDF, 0x34, 0x12], .bbs5 0x34 0x12)] = true := by
  decide +kernel

theorem test_decode_rowE : codedAs [
    ([0xE0, 0x34], .cpxImm 0x34), ([0xE1, 0x34], .sbcIzx 0x34), ([0xE2, 0x34], .nopE2 0x34),
    ([0xE3], .nopE3), ([0xE4, 0x34], .cpxZp 0x34), ([0xE5, 0x34], .sbcZp 0x34),
    ([0xE6, 0x34], .incZp 0x34), ([0xE7, 0x34], .smb6 0x34), ([0xE8], .inx),
    ([0xE9, 0x34], .sbcImm 0x34), ([0xEA], .nop), ([0xEB], .nopEB),
    ([0xEC, 0x34, 0x12], .cpxAbs 0x1234), ([0xED, 0x34, 0x12], .sbcAbs 0x1234), ([0xEE, 0x34, 0x12], .incAbs 0x1234),
    ([0xEF, 0x34, 0x12], .bbs6 0x34 0x12)] = true := by
  decide +kernel

theorem test_decode_rowF : codedAs [
    ([0xF0, 0x34], .beq 0x34), ([0xF1, 0x34], .sbcIzy 0x34), ([0xF2, 0x34], .sbcZpi 0x34),
    ([0xF3], .nopF3), ([0xF4, 0x34], .nopF4 0x34), ([0xF5, 0x34], .sbcZpx 0x34),
    ([0xF6, 0x34], .incZpx 0x34), ([0xF7, 0x34], .smb7 0x34), ([0xF8], .sed),
    ([0xF9, 0x34, 0x12], .sbcAby 0x1234), ([0xFA], .plx), ([0xFB], .nopFB),
    ([0xFC, 0x34, 0x12], .nopFC 0x1234), ([0xFD, 0x34, 0x12], .sbcAbx 0x1234), ([0xFE, 0x34, 0x12], .incAbx 0x1234),
    ([0xFF, 0x34, 0x12], .bbs7 0x34 0x12)] = true := by
  decide +kernel

/-! Single steps: the vectors of spec/95_test_vectors.md 2.1, row by row. -/

/-- addressing (40_execution_addressing.md): zpx wraps in page zero; zpy wraps (LDX $F0,Y); abx no page cross; abx page cross +1; aby page cross +1; izx pointer at 0xFF wraps. -/
theorem test_addressing_1 : [
    ⟨[0xB5, 0xF0], ⟨0x00, 0x20, 0x00, 0xFF, 0x20, 0x0300⟩, [(0x0010, 0x77)], [], ⟨0x77, 0x20, 0x00, 0xFF, 0x20, 0x0302⟩, [], .running, 4⟩,
    ⟨[0xB6, 0xF0], ⟨0x00, 0x00, 0x11, 0xFF, 0x20, 0x0300⟩, [(0x0001, 0x80)], [], ⟨0x00, 0x80, 0x11, 0xFF, 0xA0, 0x0302⟩, [], .running, 4⟩,
    ⟨[0xBD, 0x00, 0x20], ⟨0x00, 0x10, 0x00, 0xFF, 0x20, 0x0300⟩, [(0x2010, 0x01)], [], ⟨0x01, 0x10, 0x00, 0xFF, 0x20, 0x0303⟩, [], .running, 4⟩,
    ⟨[0xBD, 0xF8, 0x20], ⟨0x00, 0x10, 0x00, 0xFF, 0x20, 0x0300⟩, [(0x2108, 0x02)], [], ⟨0x02, 0x10, 0x00, 0xFF, 0x20, 0x0303⟩, [], .running, 5⟩,
    ⟨[0xB9, 0xFF, 0x20], ⟨0x00, 0x00, 0x01, 0xFF, 0x20, 0x0300⟩, [(0x2100, 0x03)], [], ⟨0x03, 0x00, 0x01, 0xFF, 0x20, 0x0303⟩, [], .running, 5⟩,
    ⟨[0xA1, 0xFE], ⟨0x00, 0x01, 0x00, 0xFF, 0x20, 0x0300⟩, [(0x0000, 0x12), (0x00FF, 0x34), (0x1234, 0x55)], [], ⟨0x55, 0x01, 0x00, 0xFF, 0x20, 0x0302⟩, [], .running, 6⟩].all Vec.holds = true := by
  decide +kernel

/-- addressing (40_execution_addressing.md): izy no cross; izy page cross +1; izy pointer at 0xFF wraps; zpi (LDA ($10)); STA abx always 5; STA izy always 6. -/
theorem test_addressing_2 : [
    ⟨[0xB1, 0x10], ⟨0x00, 0x00, 0x05, 0xFF, 0x20, 0x0300⟩, [(0x0010, 0x00), (0x0011, 0x20), (0x2005, 0x66)], [], ⟨0x66, 0x00, 0x05, 0xFF, 0x20, 0x0302⟩, [], .running, 5⟩,
    ⟨[0xB1, 0x10], ⟨0x00, 0x00, 0x05, 0xFF, 0x20, 0x0300⟩, [(0x0010, 0xFE), (0x0011, 0x20), (0x2103, 0x67)], [], ⟨0x67, 0x00, 0x05, 0xFF, 0x20, 0x0302⟩, [], .running, 6⟩,
    ⟨[0xB1, 0xFF], ⟨0x00, 0x00, 0x00, 0xFF, 0x20, 0x0300⟩, [(0x0000, 0x21), (0x00FF, 0x00), (0x2100, 0x68)], [], ⟨0x68, 0x00, 0x00, 0xFF, 0x20, 0x0302⟩, [], .running, 5⟩,
    ⟨[0xB2, 0x10], ⟨0x00, 0x00, 0x00, 0xFF, 0x20, 0x0300⟩, [(0x0010, 0x00), (0x0011, 0x22), (0x2200, 0x69)], [], ⟨0x69, 0x00, 0x00, 0xFF, 0x20, 0x0302⟩, [], .running, 5⟩,
    ⟨[0x9D, 0xF8, 0x20], ⟨0x5A, 0x10, 0x00, 0xFF, 0x20, 0x0300⟩, [], [], ⟨0x5A, 0x10, 0x00, 0xFF, 0x20, 0x0303⟩, [(0x2108, 0x5A)], .running, 5⟩,
    ⟨[0x91, 0x10], ⟨0x5B, 0x00, 0x05, 0xFF, 0x20, 0x0300⟩, [(0x0010, 0xFE), (0x0011, 0x20)], [], ⟨0x5B, 0x00, 0x05, 0xFF, 0x20, 0x0302⟩, [(0x2103, 0x5B)], .running, 6⟩].all Vec.holds = true := by
  decide +kernel

/-- load, store, transfer (41_load_store_transfer.md): LDA #0 sets Z; LDA #$80 sets N; LDX abs; LDY zpx; STX zpy; STY abs; STZ abx. -/
theorem test_load_store_1 : [
    ⟨[0xA9, 0x00], ⟨0x00, 0x00, 0x00, 0xFF, 0xA0, 0x0300⟩, [], [], ⟨0x00, 0x00, 0x00, 0xFF, 0x22, 0x0302⟩, [], .running, 2⟩,
    ⟨[0xA9, 0x80], ⟨0x00, 0x00, 0x00, 0xFF, 0x22, 0x0300⟩, [], [], ⟨0x80, 0x00, 0x00, 0xFF, 0xA0, 0x0302⟩, [], .running, 2⟩,
    ⟨[0xAE, 0x00, 0x20], ⟨0x00, 0x00, 0x00, 0xFF, 0xA2, 0x0300⟩, [(0x2000, 0x7F)], [], ⟨0x00, 0x7F, 0x00, 0xFF, 0x20, 0x0303⟩, [], .running, 4⟩,
    ⟨[0xB4, 0x10], ⟨0x00, 0x01, 0x00, 0xFF, 0x20, 0x0300⟩, [(0x0011, 0x00)], [], ⟨0x00, 0x01, 0x00, 0xFF, 0x22, 0x0302⟩, [], .running, 4⟩,
    ⟨[0x96, 0x10], ⟨0x00, 0xAB, 0x02, 0xFF, 0x20, 0x0300⟩, [], [], ⟨0x00, 0xAB, 0x02, 0xFF, 0x20, 0x0302⟩, [(0x0012, 0xAB)], .running, 4⟩,
    ⟨[0x8C, 0x00, 0x20], ⟨0x00, 0x00, 0xCD, 0xFF, 0x20, 0x0300⟩, [], [], ⟨0x00, 0x00, 0xCD, 0xFF, 0x20, 0x0303⟩, [(0x2000, 0xCD)], .running, 4⟩,
    ⟨[0x9E, 0x00, 0x20], ⟨0x00, 0x01, 0x00, 0xFF, 0x20, 0x0300⟩, [(0x2001, 0xFF)], [], ⟨0x00, 0x01, 0x00, 0xFF, 0x20, 0x0303⟩, [(0x2001, 0x00)], .running, 5⟩].all Vec.holds = true := by
  decide +kernel

/-- load, store, transfer (41_load_store_transfer.md): TAX negative; TAY zero; TXA; TYA; TSX; TXS changes no flag. -/
theorem test_load_store_2 : [
    ⟨[0xAA], ⟨0x90, 0x00, 0x00, 0xFF, 0x20, 0x0300⟩, [], [], ⟨0x90, 0x90, 0x00, 0xFF, 0xA0, 0x0301⟩, [], .running, 2⟩,
    ⟨[0xA8], ⟨0x00, 0x00, 0x12, 0xFF, 0x20, 0x0300⟩, [], [], ⟨0x00, 0x00, 0x00, 0xFF, 0x22, 0x0301⟩, [], .running, 2⟩,
    ⟨[0x8A], ⟨0xFF, 0x01, 0x00, 0xFF, 0xA0, 0x0300⟩, [], [], ⟨0x01, 0x01, 0x00, 0xFF, 0x20, 0x0301⟩, [], .running, 2⟩,
    ⟨[0x98], ⟨0x00, 0x00, 0x80, 0xFF, 0x20, 0x0300⟩, [], [], ⟨0x80, 0x00, 0x80, 0xFF, 0xA0, 0x0301⟩, [], .running, 2⟩,
    ⟨[0xBA], ⟨0x00, 0x00, 0x00, 0x00, 0x20, 0x0300⟩, [], [], ⟨0x00, 0x00, 0x00, 0x00, 0x22, 0x0301⟩, [], .running, 2⟩,
    ⟨[0x9A], ⟨0x00, 0x80, 0x00, 0xFF, 0x22, 0x0300⟩, [], [], ⟨0x00, 0x80, 0x00, 0x80, 0x22, 0x0301⟩, [], .running, 2⟩].all Vec.holds = true := by
  decide +kernel

/-- stack (42_stack.md): PHA; PHA at SP=00 wraps; PHP pushes B and U; PLA; PLA at SP=FF wraps; PLP 0x00 keeps U. -/
theorem test_stack_1 : [
    ⟨[0x48], ⟨0x42, 0x00, 0x00, 0xFF, 0x20, 0x0300⟩, [], [], ⟨0x42, 0x00, 0x00, 0xFE, 0x20, 0x0301⟩, [(0x01FF, 0x42)], .running, 3⟩,
    ⟨[0x48], ⟨0x43, 0x00, 0x00, 0x00, 0x20, 0x0300⟩, [], [], ⟨0x43, 0x00, 0x00, 0xFF, 0x20, 0x0301⟩, [(0x0100, 0x43)], .running, 3⟩,
    ⟨[0x08], ⟨0x00, 0x00, 0x00, 0xFF, 0xE3, 0x0300⟩, [], [], ⟨0x00, 0x00, 0x00, 0xFE, 0xE3, 0x0301⟩, [(0x01FF, 0xF3)], .running, 3⟩,
    ⟨[0x68], ⟨0x00, 0x00, 0x00, 0xFE, 0x20, 0x0300⟩, [(0x01FF, 0x80)], [], ⟨0x80, 0x00, 0x00, 0xFF, 0xA0, 0x0301⟩, [], .running, 4⟩,
    ⟨[0x68], ⟨0x00, 0x00, 0x00, 0xFF, 0x20, 0x0300⟩, [(0x0100, 0x00)], [], ⟨0x00, 0x00, 0x00, 0x00, 0x22, 0x0301⟩, [], .running, 4⟩,
    ⟨[0x28], ⟨0x00, 0x00, 0x00, 0xFE, 0xFF, 0x0300⟩, [(0x01FF, 0x00)], [], ⟨0x00, 0x00, 0x00, 0xFF, 0x20, 0x0301⟩, [], .running, 4⟩].all Vec.holds = true := by
  decide +kernel

/-- stack (42_stack.md): PLP 0xFF; PHX; PHY; PLX; PLY. -/
theorem test_stack_2 : [
    ⟨[0x28], ⟨0x00, 0x00, 0x00, 0xFE, 0x20, 0x0300⟩, [(0x01FF, 0xFF)], [], ⟨0x00, 0x00, 0x00, 0xFF, 0xFF, 0x0301⟩, [], .running, 4⟩,
    ⟨[0xDA], ⟨0x00, 0x07, 0x00, 0xFF, 0x20, 0x0300⟩, [], [], ⟨0x00, 0x07, 0x00, 0xFE, 0x20, 0x0301⟩, [(0x01FF, 0x07)], .running, 3⟩,
    ⟨[0x5A], ⟨0x00, 0x00, 0x09, 0x80, 0x20, 0x0300⟩, [], [], ⟨0x00, 0x00, 0x09, 0x7F, 0x20, 0x0301⟩, [(0x0180, 0x09)], .running, 3⟩,
    ⟨[0xFA], ⟨0x00, 0x00, 0x00, 0xFE, 0x20, 0x0300⟩, [(0x01FF, 0x00)], [], ⟨0x00, 0x00, 0x00, 0xFF, 0x22, 0x0301⟩, [], .running, 4⟩,
    ⟨[0x7A], ⟨0x00, 0x00, 0x00, 0xFE, 0x20, 0x0300⟩, [(0x01FF, 0xFF)], [], ⟨0x00, 0x00, 0xFF, 0xFF, 0xA0, 0x0301⟩, [], .running, 4⟩].all Vec.holds = true := by
  decide +kernel

/-- arithmetic, binary (43_arithmetic.md): ADC 0x50+0x10; ADC 0x50+0x50 V; ADC 0xD0+0x90 C V; ADC 0xFF+0x00+C Z C; SBC 0x50-0xF0 borrow, no V; SBC 0x50-0xB0 borrow V; SBC 0x00-0x01 borrow; SBC with C=0. -/
theorem test_binary : [
    ⟨[0x69, 0x10], ⟨0x50, 0x00, 0x00, 0xFF, 0x20, 0x0300⟩, [], [], ⟨0x60, 0x00, 0x00, 0xFF, 0x20, 0x0302⟩, [], .running, 2⟩,
    ⟨[0x69, 0x50], ⟨0x50, 0x00, 0x00, 0xFF, 0x20, 0x0300⟩, [], [], ⟨0xA0, 0x00, 0x00, 0xFF, 0xE0, 0x0302⟩, [], .running, 2⟩,
    ⟨[0x69, 0x90], ⟨0xD0, 0x00, 0x00, 0xFF, 0x20, 0x0300⟩, [], [], ⟨0x60, 0x00, 0x00, 0xFF, 0x61, 0x0302⟩, [], .running, 2⟩,
    ⟨[0x69, 0x00], ⟨0xFF, 0x00, 0x00, 0xFF, 0x21, 0x0300⟩, [], [], ⟨0x00, 0x00, 0x00, 0xFF, 0x23, 0x0302⟩, [], .running, 2⟩,
    ⟨[0xE9, 0xF0], ⟨0x50, 0x00, 0x00, 0xFF, 0x21, 0x0300⟩, [], [], ⟨0x60, 0x00, 0x00, 0xFF, 0x20, 0x0302⟩, [], .running, 2⟩,
    ⟨[0xE9, 0xB0], ⟨0x50, 0x00, 0x00, 0xFF, 0x21, 0x0300⟩, [], [], ⟨0xA0, 0x00, 0x00, 0xFF, 0xE0, 0x0302⟩, [], .running, 2⟩,
    ⟨[0xE9, 0x01], ⟨0x00, 0x00, 0x00, 0xFF, 0x21, 0x0300⟩, [], [], ⟨0xFF, 0x00, 0x00, 0xFF, 0xA0, 0x0302⟩, [], .running, 2⟩,
    ⟨[0xE9, 0x01], ⟨0x05, 0x00, 0x00, 0xFF, 0x20, 0x0300⟩, [], [], ⟨0x03, 0x00, 0x00, 0xFF, 0x21, 0x0302⟩, [], .running, 2⟩].all Vec.holds = true := by
  decide +kernel

/-- arithmetic, decimal (43_arithmetic.md): ADC D 0x58+0x46+1; ADC D 0x99+0x01; ADC D 0x12+0x34; ADC D 0x79+0x00+1, no V; ADC D 0x50+0x50 V from binary. -/
theorem test_decimal_1 : [
    ⟨[0x69, 0x46], ⟨0x58, 0x00, 0x00, 0xFF, 0x29, 0x0300⟩, [], [], ⟨0x05, 0x00, 0x00, 0xFF, 0x69, 0x0302⟩, [], .running, 2⟩,
    ⟨[0x69, 0x01], ⟨0x99, 0x00, 0x00, 0xFF, 0x28, 0x0300⟩, [], [], ⟨0x00, 0x00, 0x00, 0xFF, 0x2B, 0x0302⟩, [], .running, 2⟩,
    ⟨[0x69, 0x34], ⟨0x12, 0x00, 0x00, 0xFF, 0x28, 0x0300⟩, [], [], ⟨0x46, 0x00, 0x00, 0xFF, 0x28, 0x0302⟩, [], .running, 2⟩,
    ⟨[0x69, 0x00], ⟨0x79, 0x00, 0x00, 0xFF, 0x29, 0x0300⟩, [], [], ⟨0x80, 0x00, 0x00, 0xFF, 0xA8, 0x0302⟩, [], .running, 2⟩,
    ⟨[0x69, 0x50], ⟨0x50, 0x00, 0x00, 0xFF, 0x28, 0x0300⟩, [], [], ⟨0x00, 0x00, 0x00, 0xFF, 0x6B, 0x0302⟩, [], .running, 2⟩].all Vec.holds = true := by
  decide +kernel

/-- arithmetic, decimal (43_arithmetic.md): SBC D 0x46-0x12; SBC D 0x00-0x01; SBC D 0x32-0x02-1; ADC D invalid 0x0F+0x01. -/
theorem test_decimal_2 : [
    ⟨[0xE9, 0x12], ⟨0x46, 0x00, 0x00, 0xFF, 0x29, 0x0300⟩, [], [], ⟨0x34, 0x00, 0x00, 0xFF, 0x29, 0x0302⟩, [], .running, 2⟩,
    ⟨[0xE9, 0x01], ⟨0x00, 0x00, 0x00, 0xFF, 0x29, 0x0300⟩, [], [], ⟨0x99, 0x00, 0x00, 0xFF, 0xA8, 0x0302⟩, [], .running, 2⟩,
    ⟨[0xE9, 0x02], ⟨0x32, 0x00, 0x00, 0xFF, 0x28, 0x0300⟩, [], [], ⟨0x29, 0x00, 0x00, 0xFF, 0x29, 0x0302⟩, [], .running, 2⟩,
    ⟨[0x69, 0x01], ⟨0x0F, 0x00, 0x00, 0xFF, 0x28, 0x0300⟩, [], [], ⟨0x16, 0x00, 0x00, 0xFF, 0x28, 0x0302⟩, [], .running, 2⟩].all Vec.holds = true := by
  decide +kernel

/-- compare, increment, decrement (43_arithmetic.md): CMP equal; CMP less; CMP greater, negative diff; CPX; CPY zp; INC zp wraps to 0; DEC abs 0 -> FF; INC A. -/
theorem test_compare_step_1 : [
    ⟨[0xC9, 0x40], ⟨0x40, 0x00, 0x00, 0xFF, 0x20, 0x0300⟩, [], [], ⟨0x40, 0x00, 0x00, 0xFF, 0x23, 0x0302⟩, [], .running, 2⟩,
    ⟨[0xC9, 0x41], ⟨0x40, 0x00, 0x00, 0xFF, 0x20, 0x0300⟩, [], [], ⟨0x40, 0x00, 0x00, 0xFF, 0xA0, 0x0302⟩, [], .running, 2⟩,
    ⟨[0xC9, 0x01], ⟨0xF0, 0x00, 0x00, 0xFF, 0x20, 0x0300⟩, [], [], ⟨0xF0, 0x00, 0x00, 0xFF, 0xA1, 0x0302⟩, [], .running, 2⟩,
    ⟨[0xE0, 0x10], ⟨0x00, 0x20, 0x00, 0xFF, 0x20, 0x0300⟩, [], [], ⟨0x00, 0x20, 0x00, 0xFF, 0x21, 0x0302⟩, [], .running, 2⟩,
    ⟨[0xC4, 0x10], ⟨0x00, 0x00, 0x00, 0xFF, 0x20, 0x0300⟩, [(0x0010, 0x01)], [], ⟨0x00, 0x00, 0x00, 0xFF, 0xA0, 0x0302⟩, [], .running, 3⟩,
    ⟨[0xE6, 0x10], ⟨0x00, 0x00, 0x00, 0xFF, 0x20, 0x0300⟩, [(0x0010, 0xFF)], [], ⟨0x00, 0x00, 0x00, 0xFF, 0x22, 0x0302⟩, [(0x0010, 0x00)], .running, 5⟩,
    ⟨[0xCE, 0x00, 0x20], ⟨0x00, 0x00, 0x00, 0xFF, 0x20, 0x0300⟩, [(0x2000, 0x00)], [], ⟨0x00, 0x00, 0x00, 0xFF, 0xA0, 0x0303⟩, [(0x2000, 0xFF)], .running, 6⟩,
    ⟨[0x1A], ⟨0x7F, 0x00, 0x00, 0xFF, 0x20, 0x0300⟩, [], [], ⟨0x80, 0x00, 0x00, 0xFF, 0xA0, 0x0301⟩, [], .running, 2⟩].all Vec.holds = true := by
  decide +kernel

/-- compare, increment, decrement (43_arithmetic.md): DEC A; INX FF; INY; DEX 0; DEY 1; INC abx always 7; INC in decimal mode is binary. -/
theorem test_compare_step_2 : [
    ⟨[0x3A], ⟨0x01, 0x00, 0x00, 0xFF, 0x20, 0x0300⟩, [], [], ⟨0x00, 0x00, 0x00, 0xFF, 0x22, 0x0301⟩, [], .running, 2⟩,
    ⟨[0xE8], ⟨0x00, 0xFF, 0x00, 0xFF, 0x20, 0x0300⟩, [], [], ⟨0x00, 0x00, 0x00, 0xFF, 0x22, 0x0301⟩, [], .running, 2⟩,
    ⟨[0xC8], ⟨0x00, 0x00, 0x7F, 0xFF, 0x20, 0x0300⟩, [], [], ⟨0x00, 0x00, 0x80, 0xFF, 0xA0, 0x0301⟩, [], .running, 2⟩,
    ⟨[0xCA], ⟨0x00, 0x00, 0x00, 0xFF, 0x20, 0x0300⟩, [], [], ⟨0x00, 0xFF, 0x00, 0xFF, 0xA0, 0x0301⟩, [], .running, 2⟩,
    ⟨[0x88], ⟨0x00, 0x00, 0x01, 0xFF, 0x20, 0x0300⟩, [], [], ⟨0x00, 0x00, 0x00, 0xFF, 0x22, 0x0301⟩, [], .running, 2⟩,
    ⟨[0xFE, 0xFF, 0x20], ⟨0x00, 0x01, 0x00, 0xFF, 0x20, 0x0300⟩, [(0x2100, 0x01)], [], ⟨0x00, 0x01, 0x00, 0xFF, 0x20, 0x0303⟩, [(0x2100, 0x02)], .running, 7⟩,
    ⟨[0x1A], ⟨0x09, 0x00, 0x00, 0xFF, 0x28, 0x0300⟩, [], [], ⟨0x0A, 0x00, 0x00, 0xFF, 0x28, 0x0301⟩, [], .running, 2⟩].all Vec.holds = true := by
  decide +kernel

/-- logic, shift, bit (44_logic_shift_bit.md): AND; AND to zero; ORA; EOR; BIT imm only Z; BIT zp N V from M. -/
theorem test_logic_shift_1 : [
    ⟨[0x29, 0x0F], ⟨0xF3, 0x00, 0x00, 0xFF, 0x20, 0x0300⟩, [], [], ⟨0x03, 0x00, 0x00, 0xFF, 0x20, 0x0302⟩, [], .running, 2⟩,
    ⟨[0x29, 0x0F], ⟨0xF0, 0x00, 0x00, 0xFF, 0x20, 0x0300⟩, [], [], ⟨0x00, 0x00, 0x00, 0xFF, 0x22, 0x0302⟩, [], .running, 2⟩,
    ⟨[0x09, 0x80], ⟨0x01, 0x00, 0x00, 0xFF, 0x20, 0x0300⟩, [], [], ⟨0x81, 0x00, 0x00, 0xFF, 0xA0, 0x0302⟩, [], .running, 2⟩,
    ⟨[0x49, 0xFF], ⟨0xFF, 0x00, 0x00, 0xFF, 0x20, 0x0300⟩, [], [], ⟨0x00, 0x00, 0x00, 0xFF, 0x22, 0x0302⟩, [], .running, 2⟩,
    ⟨[0x89, 0xC0], ⟨0x00, 0x00, 0x00, 0xFF, 0x20, 0x0300⟩, [], [], ⟨0x00, 0x00, 0x00, 0xFF, 0x22, 0x0302⟩, [], .running, 2⟩,
    ⟨[0x24, 0x10], ⟨0x01, 0x00, 0x00, 0xFF, 0x20, 0x0300⟩, [(0x0010, 0xC0)], [], ⟨0x01, 0x00, 0x00, 0xFF, 0xE2, 0x0302⟩, [], .running, 3⟩].all Vec.holds = true := by
  decide +kernel

/-- logic, shift, bit (44_logic_shift_bit.md): BIT abx; TSB; TRB; ASL A; LSR A; ROL A with C. -/
theorem test_logic_shift_2 : [
    ⟨[0x3C, 0x00, 0x20], ⟨0x40, 0x01, 0x00, 0xFF, 0x20, 0x0300⟩, [(0x2001, 0x40)], [], ⟨0x40, 0x01, 0x00, 0xFF, 0x60, 0x0303⟩, [], .running, 4⟩,
    ⟨[0x04, 0x10], ⟨0x0F, 0x00, 0x00, 0xFF, 0x20, 0x0300⟩, [(0x0010, 0xF0)], [], ⟨0x0F, 0x00, 0x00, 0xFF, 0x22, 0x0302⟩, [(0x0010, 0xFF)], .running, 5⟩,
    ⟨[0x14, 0x10], ⟨0x0F, 0x00, 0x00, 0xFF, 0x20, 0x0300⟩, [(0x0010, 0xFF)], [], ⟨0x0F, 0x00, 0x00, 0xFF, 0x20, 0x0302⟩, [(0x0010, 0xF0)], .running, 5⟩,
    ⟨[0x0A], ⟨0x81, 0x00, 0x00, 0xFF, 0x20, 0x0300⟩, [], [], ⟨0x02, 0x00, 0x00, 0xFF, 0x21, 0x0301⟩, [], .running, 2⟩,
    ⟨[0x4A], ⟨0x01, 0x00, 0x00, 0xFF, 0x20, 0x0300⟩, [], [], ⟨0x00, 0x00, 0x00, 0xFF, 0x23, 0x0301⟩, [], .running, 2⟩,
    ⟨[0x2A], ⟨0x80, 0x00, 0x00, 0xFF, 0x21, 0x0300⟩, [], [], ⟨0x01, 0x00, 0x00, 0xFF, 0x21, 0x0301⟩, [], .running, 2⟩].all Vec.holds = true := by
  decide +kernel

/-- logic, shift, bit (44_logic_shift_bit.md): ROR A with C; ASL zp; ROR abx page cross +1; RMB3; SMB7. -/
theorem test_logic_shift_3 : [
    ⟨[0x6A], ⟨0x01, 0x00, 0x00, 0xFF, 0x21, 0x0300⟩, [], [], ⟨0x80, 0x00, 0x00, 0xFF, 0xA1, 0x0301⟩, [], .running, 2⟩,
    ⟨[0x06, 0x10], ⟨0x00, 0x00, 0x00, 0xFF, 0x20, 0x0300⟩, [(0x0010, 0x40)], [], ⟨0x00, 0x00, 0x00, 0xFF, 0xA0, 0x0302⟩, [(0x0010, 0x80)], .running, 5⟩,
    ⟨[0x7E, 0xFF, 0x20], ⟨0x00, 0x01, 0x00, 0xFF, 0x20, 0x0300⟩, [(0x2100, 0x02)], [], ⟨0x00, 0x01, 0x00, 0xFF, 0x20, 0x0303⟩, [(0x2100, 0x01)], .running, 7⟩,
    ⟨[0x37, 0x10], ⟨0x00, 0x00, 0x00, 0xFF, 0x20, 0x0300⟩, [(0x0010, 0xFF)], [], ⟨0x00, 0x00, 0x00, 0xFF, 0x20, 0x0302⟩, [(0x0010, 0xF7)], .running, 5⟩,
    ⟨[0xF7, 0x10], ⟨0x00, 0x00, 0x00, 0xFF, 0x20, 0x0300⟩, [(0x0010, 0x00)], [], ⟨0x00, 0x00, 0x00, 0xFF, 0x20, 0x0302⟩, [(0x0010, 0x80)], .running, 5⟩].all Vec.holds = true := by
  decide +kernel

/-- control transfer (45_control_transfer.md): JMP abs; JMP ($12FF) no page bug; JMP ($2000,X); JSR; RTS; RTI; BEQ not taken. -/
theorem test_control_1 : [
    ⟨[0x4C, 0x00, 0x20], ⟨0x00, 0x00, 0x00, 0xFF, 0x20, 0x0300⟩, [], [], ⟨0x00, 0x00, 0x00, 0xFF, 0x20, 0x2000⟩, [], .running, 3⟩,
    ⟨[0x6C, 0xFF, 0x12], ⟨0x00, 0x00, 0x00, 0xFF, 0x20, 0x0300⟩, [(0x1200, 0x99), (0x12FF, 0x34), (0x1300, 0x56)], [], ⟨0x00, 0x00, 0x00, 0xFF, 0x20, 0x5634⟩, [], .running, 6⟩,
    ⟨[0x7C, 0x00, 0x20], ⟨0x00, 0x02, 0x00, 0xFF, 0x20, 0x0300⟩, [(0x2002, 0x00), (0x2003, 0x40)], [], ⟨0x00, 0x02, 0x00, 0xFF, 0x20, 0x4000⟩, [], .running, 6⟩,
    ⟨[0x20, 0x00, 0x20], ⟨0x00, 0x00, 0x00, 0xFF, 0x20, 0x0300⟩, [], [], ⟨0x00, 0x00, 0x00, 0xFD, 0x20, 0x2000⟩, [(0x01FE, 0x02), (0x01FF, 0x03)], .running, 6⟩,
    ⟨[0x60], ⟨0x00, 0x00, 0x00, 0xFD, 0x20, 0x0300⟩, [(0x01FE, 0x02), (0x01FF, 0x03)], [], ⟨0x00, 0x00, 0x00, 0xFF, 0x20, 0x0303⟩, [], .running, 6⟩,
    ⟨[0x40], ⟨0x00, 0x00, 0x00, 0xFC, 0x20, 0x0300⟩, [(0x01FD, 0x00), (0x01FE, 0x34), (0x01FF, 0x12)], [], ⟨0x00, 0x00, 0x00, 0xFF, 0x20, 0x1234⟩, [], .running, 6⟩,
    ⟨[0xF0, 0x10], ⟨0x00, 0x00, 0x00, 0xFF, 0x20, 0x0300⟩, [], [], ⟨0x00, 0x00, 0x00, 0xFF, 0x20, 0x0302⟩, [], .running, 2⟩].all Vec.holds = true := by
  decide +kernel

/-- control transfer (45_control_transfer.md): BEQ taken same page; BNE taken back across page; BCC taken forward; BCS taken across page; BMI not taken; BPL taken; BVC taken. -/
theorem test_control_2 : [
    ⟨[0xF0, 0x10], ⟨0x00, 0x00, 0x00, 0xFF, 0x22, 0x0300⟩, [], [], ⟨0x00, 0x00, 0x00, 0xFF, 0x22, 0x0312⟩, [], .running, 3⟩,
    ⟨[0xD0, 0xF0], ⟨0x00, 0x00, 0x00, 0xFF, 0x20, 0x0305⟩, [], [], ⟨0x00, 0x00, 0x00, 0xFF, 0x20, 0x02F7⟩, [], .running, 4⟩,
    ⟨[0x90, 0x7F], ⟨0x00, 0x00, 0x00, 0xFF, 0x20, 0x0300⟩, [], [], ⟨0x00, 0x00, 0x00, 0xFF, 0x20, 0x0381⟩, [], .running, 3⟩,
    ⟨[0xB0, 0x7F], ⟨0x00, 0x00, 0x00, 0xFF, 0x21, 0x03F0⟩, [], [], ⟨0x00, 0x00, 0x00, 0xFF, 0x21, 0x0471⟩, [], .running, 4⟩,
    ⟨[0x30, 0x10], ⟨0x00, 0x00, 0x00, 0xFF, 0x20, 0x0300⟩, [], [], ⟨0x00, 0x00, 0x00, 0xFF, 0x20, 0x0302⟩, [], .running, 2⟩,
    ⟨[0x10, 0x02], ⟨0x00, 0x00, 0x00, 0xFF, 0x20, 0x0300⟩, [], [], ⟨0x00, 0x00, 0x00, 0xFF, 0x20, 0x0304⟩, [], .running, 3⟩,
    ⟨[0x50, 0xFE], ⟨0x00, 0x00, 0x00, 0xFF, 0x20, 0x0300⟩, [], [], ⟨0x00, 0x00, 0x00, 0xFF, 0x20, 0x0300⟩, [], .running, 3⟩].all Vec.holds = true := by
  decide +kernel

/-- control transfer (45_control_transfer.md): BVS not taken; BRA same page; BRA across page; BBR0 taken; BBR0 not taken; BBS7 taken back across page; BRK (vector bytes 0x00, 0xF0). -/
theorem test_control_3 : [
    ⟨[0x70, 0xFE], ⟨0x00, 0x00, 0x00, 0xFF, 0x20, 0x0300⟩, [], [], ⟨0x00, 0x00, 0x00, 0xFF, 0x20, 0x0302⟩, [], .running, 2⟩,
    ⟨[0x80, 0x10], ⟨0x00, 0x00, 0x00, 0xFF, 0x20, 0x0300⟩, [], [], ⟨0x00, 0x00, 0x00, 0xFF, 0x20, 0x0312⟩, [], .running, 3⟩,
    ⟨[0x80, 0x7F], ⟨0x00, 0x00, 0x00, 0xFF, 0x20, 0x03F0⟩, [], [], ⟨0x00, 0x00, 0x00, 0xFF, 0x20, 0x0471⟩, [], .running, 4⟩,
    ⟨[0x0F, 0x10, 0x05], ⟨0x00, 0x00, 0x00, 0xFF, 0x20, 0x0300⟩, [(0x0010, 0xFE)], [], ⟨0x00, 0x00, 0x00, 0xFF, 0x20, 0x0308⟩, [], .running, 6⟩,
    ⟨[0x0F, 0x10, 0x05], ⟨0x00, 0x00, 0x00, 0xFF, 0x20, 0x0300⟩, [(0x0010, 0x01)], [], ⟨0x00, 0x00, 0x00, 0xFF, 0x20, 0x0303⟩, [], .running, 5⟩,
    ⟨[0xFF, 0x10, 0xF0], ⟨0x00, 0x00, 0x00, 0xFF, 0x20, 0x0300⟩, [(0x0010, 0x80)], [], ⟨0x00, 0x00, 0x00, 0xFF, 0x20, 0x02F3⟩, [], .running, 7⟩,
    ⟨[0x00, 0xEA], ⟨0x00, 0x00, 0x00, 0xFF, 0x29, 0x0300⟩, [], [(0x3FFF, 0xF0)], ⟨0x00, 0x00, 0x00, 0xFC, 0x35, 0xF000⟩, [(0x01FD, 0x39), (0x01FE, 0x02), (0x01FF, 0x03)], .running, 7⟩].all Vec.holds = true := by
  decide +kernel

/-- flags, no-operations, WAI, STP (46_flags_nop_system.md): CLC; SEC; CLI; SEI; CLD; SED; CLV; NOP. -/
theorem test_flags_nop_1 : [
    ⟨[0x18], ⟨0x00, 0x00, 0x00, 0xFF, 0x21, 0x0300⟩, [], [], ⟨0x00, 0x00, 0x00, 0xFF, 0x20, 0x0301⟩, [], .running, 2⟩,
    ⟨[0x38], ⟨0x00, 0x00, 0x00, 0xFF, 0x20, 0x0300⟩, [], [], ⟨0x00, 0x00, 0x00, 0xFF, 0x21, 0x0301⟩, [], .running, 2⟩,
    ⟨[0x58], ⟨0x00, 0x00, 0x00, 0xFF, 0x24, 0x0300⟩, [], [], ⟨0x00, 0x00, 0x00, 0xFF, 0x20, 0x0301⟩, [], .running, 2⟩,
    ⟨[0x78], ⟨0x00, 0x00, 0x00, 0xFF, 0x20, 0x0300⟩, [], [], ⟨0x00, 0x00, 0x00, 0xFF, 0x24, 0x0301⟩, [], .running, 2⟩,
    ⟨[0xD8], ⟨0x00, 0x00, 0x00, 0xFF, 0x28, 0x0300⟩, [], [], ⟨0x00, 0x00, 0x00, 0xFF, 0x20, 0x0301⟩, [], .running, 2⟩,
    ⟨[0xF8], ⟨0x00, 0x00, 0x00, 0xFF, 0x20, 0x0300⟩, [], [], ⟨0x00, 0x00, 0x00, 0xFF, 0x28, 0x0301⟩, [], .running, 2⟩,
    ⟨[0xB8], ⟨0x00, 0x00, 0x00, 0xFF, 0x60, 0x0300⟩, [], [], ⟨0x00, 0x00, 0x00, 0xFF, 0x20, 0x0301⟩, [], .running, 2⟩,
    ⟨[0xEA], ⟨0x00, 0x00, 0x00, 0xFF, 0x20, 0x0300⟩, [], [], ⟨0x00, 0x00, 0x00, 0xFF, 0x20, 0x0301⟩, [], .running, 2⟩].all Vec.holds = true := by
  decide +kernel

/-- flags, no-operations, WAI, STP (46_flags_nop_system.md): undefined 0x03; undefined 0x02; undefined 0x44; undefined 0xD4; undefined 0x5C; undefined 0xFC (no read of C000); WAI; STP. -/
theorem test_flags_nop_2 : [
    ⟨[0x03], ⟨0x00, 0x00, 0x00, 0xFF, 0x20, 0x0300⟩, [], [], ⟨0x00, 0x00, 0x00, 0xFF, 0x20, 0x0301⟩, [], .running, 1⟩,
    ⟨[0x02, 0xFF], ⟨0x00, 0x00, 0x00, 0xFF, 0x20, 0x0300⟩, [], [], ⟨0x00, 0x00, 0x00, 0xFF, 0x20, 0x0302⟩, [], .running, 2⟩,
    ⟨[0x44, 0x10], ⟨0x00, 0x00, 0x00, 0xFF, 0x20, 0x0300⟩, [], [], ⟨0x00, 0x00, 0x00, 0xFF, 0x20, 0x0302⟩, [], .running, 3⟩,
    ⟨[0xD4, 0x10], ⟨0x00, 0x00, 0x00, 0xFF, 0x20, 0x0300⟩, [], [], ⟨0x00, 0x00, 0x00, 0xFF, 0x20, 0x0302⟩, [], .running, 4⟩,
    ⟨[0x5C, 0x34, 0x12], ⟨0x00, 0x00, 0x00, 0xFF, 0x20, 0x0300⟩, [], [], ⟨0x00, 0x00, 0x00, 0xFF, 0x20, 0x0303⟩, [], .running, 8⟩,
    ⟨[0xFC, 0x00, 0xC0], ⟨0x00, 0x00, 0x00, 0xFF, 0x20, 0x0300⟩, [], [], ⟨0x00, 0x00, 0x00, 0xFF, 0x20, 0x0303⟩, [], .running, 4⟩,
    ⟨[0xCB], ⟨0x00, 0x00, 0x00, 0xFF, 0x20, 0x0300⟩, [], [], ⟨0x00, 0x00, 0x00, 0xFF, 0x20, 0x0301⟩, [], .waiting, 3⟩,
    ⟨[0xDB], ⟨0x00, 0x00, 0x00, 0xFF, 0x20, 0x0300⟩, [], [], ⟨0x00, 0x00, 0x00, 0xFF, 0x20, 0x0301⟩, [], .stopped, 3⟩].all Vec.holds = true := by
  decide +kernel

/-! Single accesses: vectors of spec/95_test_vectors.md 2.2 and 2.4. -/

/-- One access: a read, or a write of a byte. -/
inductive Access where
  | r (a : Word)
  | w (a : Word) (v : Byte)
  deriving DecidableEq, Repr

/-- Accesses one after the other: the bytes the reads answered, and the state after them; none at a fault. -/
def accesses : List Access → State → Option (List Byte × State)
  | [], s => some ([], s)
  | .r a :: l, s =>
    match read a s with
    | .ok v t => (accesses l t).map fun p => (v :: p.1, p.2)
    | .stop _ => none
  | .w a v :: l, s =>
    match write a v s with
    | .ok _ t => accesses l t
    | .stop _ => none

/-- The accesses answer these bytes and leave a state that meets the test. -/
def answers (l : List Access) (s : State) (vs : List Byte) (f : State → Bool) : Bool :=
  match accesses l s with
  | some (ws, t) => decide (ws = vs) && f t
  | none => false

/-- M1: the auxiliary write switch alone. -/
theorem test_aux_write : answers [.w 0xC005 0, .w 0x0500 0x11, .r 0x0500] State.powerOn [0x00]
    (fun t => decide (t.ram.aux = [(0x500, 0x11)]) && decide (t.ram.main = [])) = true := by decide +kernel

/-- M3: 80STORE with PAGE2. -/
theorem test_store80_page2 : answers [.w 0xC001 0, .r 0xC055, .w 0x0400 0x22, .r 0xC018, .r 0xC01C] State.powerOn [0x00, 0x80, 0x80]
    (fun t => decide (t.ram.aux = [(0x400, 0x22)])) = true := by decide +kernel

/-- M4: ALTZP moves the stack page. -/
theorem test_altzp : answers [.w 0xC009 0, .w 0x01FF 0x33, .r 0xC016] State.powerOn [0x80]
    (fun t => decide (t.ram.aux = [(0x1FF, 0x33)]) && decide (t.ram.main = [])) = true := by decide +kernel

/-- M5: the keyboard strobe. -/
theorem test_keyboard_strobe : answers [.r 0xC000, .r 0xC010, .r 0xC000] { State.powerOn with kbd := 0xC1 } [0xC1, 0x41, 0x41]
    (fun _ => true) = true := by decide +kernel

/-- M8: two reads of 0xC08B. -/
theorem test_language_card_enable : answers [.r 0xC08B, .r 0xC08B, .r 0xC011, .r 0xC012] State.powerOn [0, 0, 0x00, 0x80]
    (fun t => t.sw.lcwrite) = true := by decide +kernel

/-- M9, M10, M11: write then write, read then write, write then read of 0xC081. -/
theorem test_language_card_pairs :
    answers [.w 0xC081 0, .w 0xC081 0] State.powerOn [] (fun t => !t.sw.lcwrite && !t.sw.lcpre) = true ∧
    answers [.r 0xC081, .w 0xC081 0] State.powerOn [0] (fun t => t.sw.lcwrite && !t.sw.lcpre) = true ∧
    answers [.w 0xC081 0, .r 0xC081] State.powerOn [0] (fun t => !t.sw.lcwrite && t.sw.lcpre) = true := by decide +kernel

/-- M12: a read of an even address. -/
theorem test_language_card_even : answers [.r 0xC083, .r 0xC080] State.powerOn [0, 0]
    (fun t => !t.sw.lcwrite && !t.sw.lcpre && t.sw.lcread && t.sw.lcbank2) = true := by decide +kernel

/-- M14 and M15: the annunciator gate. -/
theorem test_annunciator_gate :
    answers [.w 0xC07E 0, .r 0xC05E] State.powerOn [0] (fun t => !t.sw.dhires && !t.sw.an3) = true ∧
    answers [.w 0xC07E 0, .w 0xC07F 0, .r 0xC05E, .r 0xC07F] State.powerOn [0, 0x80] (fun t => t.sw.dhires && !t.sw.an3) = true := by
  decide +kernel

/-- M16: a write to ROM is discarded. -/
theorem test_rom_write : answers [.w 0xD000 0x77] State.powerOn [] (fun t => decide (t = State.powerOn)) = true := by decide +kernel

/-- A controller with this unit 0. -/
def withDrive (d : Drive) : State := { State.powerOn with disk := { Disk.powerOn with drv0 := d } }

/-- K1, the first five accesses: the head moves at the fourth. -/
theorem test_outward_seek : answers [.r 0xC0E1, .r 0xC0E3, .r 0xC0E0, .r 0xC0E5] State.powerOn [0, 0, 0, 0]
    (fun t => decide (t.disk.drv0.halftrack = 1) && decide (t.disk.drv0.track = 1)) = true := by decide +kernel

/-- K4: the outward step at half-track 140. -/
theorem test_seek_cap : answers [.r 0xC0E1, .r 0xC0E3, .r 0xC0E0, .r 0xC0E5]
    (withDrive { Drive.powerOn with halftrack := 140, track := 70 }) [0, 0, 0, 0]
    (fun t => decide (t.disk.drv0.halftrack = 140) && decide (t.disk.drv0.track = 70)) = true := by decide +kernel

/-- K5: the motor follows the selection. -/
theorem test_select : answers [.r 0xC0E9, .r 0xC0EB] State.powerOn [0, 0]
    (fun t => !t.disk.drv0.motor && t.disk.drv1.motor && decide (t.disk.cur = .one)) = true := by decide +kernel

/-- K7: write protect. -/
theorem test_write_protect : answers [.r 0xC0EE] (withDrive { Drive.powerOn with readonly := true, motor := true }) [0x80]
    (fun t => !t.disk.drv0.motor && !t.disk.drv0.writeMode) = true := by decide +kernel

/-- K8: writing one nibble. -/
theorem test_write_nibble : answers [.r 0xC0EF, .w 0xC0ED 0x96, .r 0xC0EC] State.powerOn [0, 0x96]
    (fun t => decide (t.disk.drv0.data = [(0, 0x96)]) && decide (t.disk.drv0.nibble = 1)) = true := by decide +kernel

/-- K9: the cursor wraps. -/
theorem test_nibble_wrap : answers [.r 0xC0EC] (withDrive { Drive.powerOn with nibble := 0x19FF, data := [(0x19FF, 0xEE)] }) [0xEE]
    (fun t => decide (t.disk.latch = 0xEE) && decide (t.disk.drv0.nibble = 0)) = true := by decide +kernel

/-- K10: beyond the image. -/
theorem test_beyond_image : read 0xC0EC (withDrive { Drive.powerOn with halftrack := 69, track := 35 }) =
    .stop (.diskTrackBeyondImage .zero 35) := by rfl

/-! Host calls: vectors of spec/95_test_vectors.md 2.3 and 2.5. -/

/-- The start of the vectors I1 to I5. -/
def interruptStart (p : Byte) : State :=
  { machine ⟨0, 0, 0, 0xFF, p, 0x1234⟩ [] [(0x3FFB, 0x05), (0x3FFF, 0x04)] with ticks := 100 }

/-- The outcome is a next state that meets the test. -/
def nextIs (r : Result) (f : State → Bool) : Bool :=
  match r with
  | .next t => f t
  | _ => false

/-- I1: a taken IRQ. -/
theorem test_irq : nextIs (irqCall (interruptStart 0x2B)) (fun t => decide (regsOf t = ⟨0, 0, 0, 0xFC, 0x27, 0x0400⟩) &&
    decide (t.ram.main = [(0x1FD, 0x2B), (0x1FE, 0x34), (0x1FF, 0x12)]) && decide (t.ticks = 107)) = true := by decide +kernel

/-- I3: NMI ignores I. -/
theorem test_nmi : nextIs (nmiCall (interruptStart 0x2F)) (fun t => decide (regsOf t = ⟨0, 0, 0, 0xFC, 0x27, 0x0500⟩) &&
    decide (t.ram.main = [(0x1FD, 0x2F), (0x1FE, 0x34), (0x1FF, 0x12)]) && decide (t.ticks = 107)) = true := by decide +kernel

/-- I2, I4: masked, and stopped. -/
theorem test_no_interrupt :
    nextIs (irqCall (interruptStart 0x2F)) (fun t => decide (t = interruptStart 0x2F)) = true ∧
    nextIs (nmiCall { interruptStart 0x2B with mode := .stopped }) (fun t => decide (t = { interruptStart 0x2B with mode := .stopped })) = true := by
  decide +kernel

/-- I6 to I8: waiting, the overshoot, and a budget in NOPs. -/
theorem test_execute :
    nextIs (executeCall 50 { interruptStart 0x2F with mode := .waiting }) (fun t => decide (t.ticks = 150) && decide (t.pc = 0x1234)) = true ∧
    nextIs (executeCall 1 (machine ⟨0, 0, 0, 0xFF, 0x20, 0x300⟩ [(0x300, 0x5C)] [])) (fun t =>
      decide (t.ticks = 8) && decide (t.pc = 0x303)) = true ∧
    nextIs (executeCall 5 (machine ⟨0, 0, 0, 0xFF, 0x20, 0x300⟩ (at_ 0x300 [0xEA, 0xEA, 0xEA, 0xEA]) [])) (fun t =>
      decide (t.ticks = 6) && decide (t.pc = 0x303)) = true := by decide +kernel

/-- R-1 and R-2: reset keeps D and the registers. -/
theorem test_reset :
    nextIs (resetCall { machine ⟨0x11, 0, 0, 0x40, 0xA2, 0⟩ [] [(0x3FFD, 0x03)] with mode := .stopped }) (fun t =>
      decide (regsOf t = ⟨0x11, 0, 0, 0xFF, 0xA6, 0x300⟩) && decide (t.ticks = 7) && decide (t.mode = .running)) = true ∧
    nextIs (resetCall (machine ⟨0, 0, 0, 0, 0x28, 0⟩ [] [])) (fun t => decide (t.p.pack = 0x2C)) = true := by decide +kernel

/-! Ill-formed memories: out of order, a repeat, an entry equal to what an unlisted index reads as. -/

theorem test_memory_wf : Memory.wf [(1, 5), (3, 7)] = true ∧ Memory.wf [(3, 7), (1, 5)] = false ∧
    Memory.wf [(3, 7), (3, 5)] = false ∧ Memory.wf [(3, 0)] = false := by decide +kernel

/-- The host's two functions on one word of three bytes, from reset. -/
theorem test_table_word : decodeTableWord 24 0x12348D = some (.staAbs 0x1234) ∧
    nextIs (step (State.reset.withFetchWord 16 0x2AA9)) (fun t => decide (t.a = 0x2A) && decide (t.pc = 2)) = true := by decide +kernel

/-! Witnesses: for every statement with hypotheses, a state and operands that meet them. -/

/-- The access answers. -/
def isOk {α : Type} (r : Res α) : Bool :=
  match r with
  | .ok _ _ => true
  | .stop _ => false

theorem ok_of_isOk {α : Type} {r : Res α} (h : isOk r = true) : ∃ v s, r = .ok v s := by
  cases r with
  | ok v s => exact ⟨v, s, rfl⟩
  | stop f => cases h

theorem unit_ok {r : Res Unit} (h : isOk r = true) : ∃ s, r = .ok () s := by
  obtain ⟨_, s, h⟩ := ok_of_isOk h
  exact ⟨s, h⟩

theorem next_of_nextIs {r : Result} (h : nextIs r (fun _ => true) = true) : ∃ t, r = .next t := by
  cases r with
  | next t => exact ⟨t, rfl⟩
  | fault f => cases h
  | refused f => cases h

/-- Two accesses answer, the second in the state the first leaves. -/
def bothOk {α β : Type} (r : Res α) (k : α → State → Res β) : Bool :=
  match r with
  | .ok v s => isOk (k v s)
  | .stop _ => false

theorem both_ok {α β : Type} {r : Res α} {k : α → State → Res β} (h : bothOk r k = true) :
    ∃ v s w t, r = .ok v s ∧ k v s = .ok w t := by
  cases r with
  | ok v s =>
    obtain ⟨w, t, h⟩ := ok_of_isOk (r := k v s) h
    exact ⟨v, s, w, t, rfl, h⟩
  | stop f => cases h

theorem witness_inv : State.powerOn.Inv := by
  refine ⟨fun b => by cases b <;> rfl, rfl, ?_, ?_, ⟨by decide, rfl, by decide, rfl⟩, ⟨by decide, rfl, by decide, rfl⟩⟩
  · intro n m h
    have : n = 6 ∨ State.powerOn.slotRom.slot n = none := by
      unfold SlotRoms.slot
      split <;> simp [State.powerOn]
    rcases this with rfl | h'
    · cases h; rfl
    · rw [h'] at h; cases h
  · intro m h; cases h

theorem witness_DecodeEncode : (Instr.bbs7 0xFF 0x80).wellFormed = true := rfl

/-- `LDA $1234` in the three bytes before the soft switches, and in SingleStep before the top of memory. -/
def ldaAt (pc : Word) (m : Mode) : State :=
  { machine ⟨0, 0, 0, 0xFF, 0x20, pc⟩ (at_ pc [0xAD, 0x34, 0x12]) (at_ 0x3FFD [0xAD, 0x34, 0x12]) with mode := m }

/-- The bytes decode to this instruction and nothing is left. -/
def decodesTo (bs : List Byte) (i : Instr) : Bool :=
  match decode bs with
  | .ok (j, []) => decide (j = i)
  | _ => false

theorem decode_of_decodesTo {bs : List Byte} {i : Instr} (h : decodesTo bs i = true) : decode bs = .ok (i, []) := by
  unfold decodesTo at h
  split at h
  · rename_i heq
    rw [← of_decide_eq_true h]; exact heq
  · cases h

/-- `StepRunsDecoded`, at 0xBFFD, the last place before the soft switches. -/
theorem witness_StepRunsDecoded : runs (ldaAt 0xBFFD .running) ∧
    decode [peek 0xBFFD (ldaAt 0xBFFD .running), peek (0xBFFD + 1) (ldaAt 0xBFFD .running), peek (0xBFFD + 2) (ldaAt 0xBFFD .running)] =
      .ok (.ldaAbs 0x1234, []) ∧
    ∀ k, k < (encode (.ldaAbs 0x1234)).length → quiet (0xBFFD + BitVec.ofNat 16 k) = true :=
  ⟨.inl (by decide +kernel), decode_of_decodesTo (by decide +kernel), by decide +kernel⟩

/-- `StepRunsDecoded` in SingleStep at 0xFFFD, where PC wraps. -/
theorem witness_StepRunsDecoded_wrap : runs (ldaAt 0xFFFD .singleStep) ∧
    decode [peek 0xFFFD (ldaAt 0xFFFD .singleStep), peek (0xFFFD + 1) (ldaAt 0xFFFD .singleStep),
      peek (0xFFFD + 2) (ldaAt 0xFFFD .singleStep)] = .ok (.ldaAbs 0x1234, []) ∧
    ∀ k, k < (encode (.ldaAbs 0x1234)).length → quiet (0xFFFD + BitVec.ofNat 16 k) = true :=
  ⟨.inr (by decide +kernel), decode_of_decodesTo (by decide +kernel), by decide +kernel⟩

/-- `StepFetchesThroughDecoder`: a fetch from the strobe address clears the strobe and reads ROR A. -/
theorem witness_StepFetchesThroughDecoder :
    runs { State.powerOn with pc := 0xC010, kbd := 0xEA } ∧
    FetchesAs (encode .rorAcc) { State.powerOn with pc := 0xC010, kbd := 0xEA } { State.powerOn with pc := 0xC011, kbd := 0x6A } :=
  ⟨.inl rfl, { State.powerOn with pc := 0xC010, kbd := 0x6A }, by decide +kernel, rfl⟩

theorem witness_StepIsExecuteOne :
    { State.powerOn with mode := .waiting }.mode = .waiting ∧ { State.powerOn with mode := .stopped }.mode = .stopped := ⟨rfl, rfl⟩

/-- A call that answers a state of which `P` holds. -/
theorem next_with {r : Result} {P : State → Prop} [DecidablePred P] (h : nextIs r (fun t => decide (P t)) = true) : ∃ t, r = .next t ∧ P t := by
  cases r with
  | next t => exact ⟨t, rfl, of_decide_eq_true h⟩
  | fault f => cases h
  | refused f => cases h

/-- NOPs at 0x0300. -/
def nops : State := machine ⟨0, 0, 0, 0xFF, 0x20, 0x300⟩ (at_ 0x300 [0xEA, 0xEA, 0xEA]) []

/-- The instruction of 8 cycles at 0x0300. -/
def longNop : State := machine ⟨0, 0, 0, 0xFF, 0x20, 0x300⟩ [(0x300, 0x5C)] []

/-- LDA 0xC0EC at 0x0300, with the head past the image. -/
def pastImage : State :=
  { machine ⟨0, 0, 0, 0xFF, 0x20, 0x300⟩ (at_ 0x300 [0xAD, 0xEC, 0xC0]) [] with
    disk := (withDrive { Drive.powerOn with halftrack := 70, track := 35 }).disk }

/-- The step stops with a fault. -/
def isFault (r : Result) : Bool :=
  match r with
  | .fault _ => true
  | _ => false

theorem fault_of_isFault {r : Result} (h : isFault r = true) : ∃ f, r = .fault f := by
  cases r with
  | next t => cases h
  | fault f => exact ⟨f, rfl⟩
  | refused f => cases h

/-- `ExecuteMeetsBudget`, a call that answers: three NOPs for five cycles, one instruction of 8 cycles for a budget of 1, an empty budget,
and Stopped. -/
theorem witness_ExecuteMeetsBudget :
    (nops.ticks.toNat + 5 + 8 < 2 ^ 64 ∧ ∃ t, executeCall 5 nops = .next t) ∧
    (longNop.ticks.toNat + 1 + 8 < 2 ^ 64 ∧ ∃ t, executeCall 1 longNop = .next t) ∧
    (nops.ticks.toNat + 0 + 8 < 2 ^ 64 ∧ ∃ t, executeCall 0 nops = .next t) ∧
    (∃ t, executeCall 5 { nops with mode := .stopped } = .next t) :=
  ⟨⟨by decide +kernel, next_of_nextIs (by decide +kernel)⟩, ⟨by decide +kernel, next_of_nextIs (by decide +kernel)⟩,
    ⟨by decide +kernel, next_of_nextIs (by decide +kernel)⟩, next_of_nextIs (by decide +kernel)⟩

/-- `ExecuteMeetsBudget`, one turn: a step that leaves some of the budget, in both modes, one that meets it exactly, one that overshoots, and
one that faults. -/
theorem witness_ExecuteTurn :
    (runs nops ∧ nops.ticks.toNat + 5 + 8 < 2 ^ 64 ∧ ∃ t, step nops = .next t ∧ t.ticks.toNat < nops.ticks.toNat + 5) ∧
    (runs { nops with mode := .singleStep } ∧ ∃ t, step { nops with mode := .singleStep } = .next t ∧ t.ticks.toNat < nops.ticks.toNat + 5) ∧
    (∃ t, step nops = .next t ∧ t.ticks.toNat = nops.ticks.toNat + 2) ∧
    (runs longNop ∧ longNop.ticks.toNat + 1 + 8 < 2 ^ 64 ∧ ∃ t, step longNop = .next t ∧ longNop.ticks.toNat + 1 ≤ t.ticks.toNat) ∧
    (runs pastImage ∧ ∃ f, step pastImage = .fault f) :=
  ⟨⟨.inl rfl, by decide +kernel, next_with (by decide +kernel)⟩,
    ⟨.inr rfl, next_with (by decide +kernel)⟩,
    next_with (by decide +kernel),
    ⟨.inl rfl, by decide +kernel, next_with (by decide +kernel)⟩,
    ⟨.inl rfl, fault_of_isFault (by decide +kernel)⟩⟩

/-- `EveryInstructionCompletes`: the last track of the image. -/
theorem witness_EveryInstructionCompletes :
    headsOnImage (withDrive { Drive.powerOn with halftrack := 68, track := 34 }).disk = true := by decide +kernel

/-- A state with every index register set and zero-page pointers. -/
def pointed : State := machine ⟨0x81, 0x10, 0xFF, 0xFF, 0x29, 0x302⟩ [(0x0F, 0xFF), (0x10, 0x20), (0xFF, 0x12)] []

/-- `Loads`, `AddWithCarry`, `SubtractWithBorrow`, `Compares`, `Logic`, `BitTest`: every operand form reads, at operands where an address or a pointer wraps, and at
a soft switch. -/
theorem witness_operandRead :
    ∀ o ∈ [Operand.imm 0xFF, .mem (.zp 0xFF), .mem (.zpx 0xF0), .mem (.zpy 0x01), .mem (.abs 0xFFFF), .mem (.abx 0xFFF0),
      .mem (.aby 0x0001), .mem (.izx 0xFF), .mem (.izy 0x0F), .mem (.zpi 0xFF), .mem (.abs 0xC010)],
      ∃ v s1, operandRead o pointed = .ok v s1 := by
  have h : ∀ o ∈ [Operand.imm 0xFF, .mem (.zp 0xFF), .mem (.zpx 0xF0), .mem (.zpy 0x01), .mem (.abs 0xFFFF), .mem (.abx 0xFFF0),
      .mem (.aby 0x0001), .mem (.izx 0xFF), .mem (.izy 0x0F), .mem (.zpi 0xFF), .mem (.abs 0xC010)],
      isOk (operandRead o pointed) = true := by decide +kernel
  exact fun o ho => ok_of_isOk (h o ho)

/-- The memory forms, at operands where an address or a pointer wraps, and at a soft switch. -/
def forms : List MemMode :=
  [.zp 0xFF, .zpx 0xF0, .zpy 0x01, .abs 0xFFFF, .abx 0xFFF0, .aby 0x0001, .izx 0xFF, .izy 0x0F, .zpi 0xFF, .abs 0xC083]

/-- `Stores`: every memory form takes a write. -/
theorem witness_Stores : ∀ m ∈ forms, ∃ s1, write (effAddr m pointed) 0x81 pointed = .ok () s1 := by
  have h : ∀ m ∈ forms, isOk (write (effAddr m pointed) 0x81 pointed) = true := by decide +kernel
  exact fun m hm => unit_ok (h m hm)

/-- `IncDec`, `TestAndModify`, `Shifts`: every memory form is read and then written, here with the increment. -/
theorem witness_modify :
    ∀ m ∈ forms, ∃ v s1, read (effAddr m pointed) pointed = .ok v s1 ∧ ∃ u s2, write (effAddr m pointed) (v + 1) s1 = .ok u s2 := by
  have h : ∀ m ∈ forms, bothOk (read (effAddr m pointed) pointed) (fun v => write (effAddr m pointed) (v + 1)) = true := by
    decide +kernel
  intro m hm
  obtain ⟨v, s, u, t, h1, h2⟩ := both_ok (h m hm)
  exact ⟨v, s, h1, u, t, h2⟩

/-- `BcdDigits` and `BcdRoundTrip`: the largest and the smallest operands, with and without carry. -/
theorem witness_bcd :
    ((machine ⟨0x99, 0, 0, 0xFF, 0x29, 0x302⟩ [] []).p.d = true ∧ (machine ⟨0x99, 0, 0, 0xFF, 0x29, 0x302⟩ [] []).a = bcd 99 ∧
      (machine ⟨0x99, 0, 0, 0xFF, 0x29, 0x302⟩ [] []).p.c = true) ∧
    ((machine ⟨0x00, 0, 0, 0xFF, 0x28, 0x302⟩ [] []).p.d = true ∧ (machine ⟨0x00, 0, 0, 0xFF, 0x28, 0x302⟩ [] []).a = bcd 0 ∧
      (machine ⟨0x00, 0, 0, 0xFF, 0x28, 0x302⟩ [] []).p.c = false) ∧ 99 < 100 ∧ 0 < 100 := by
  decide +kernel

/-- `Jumps`: pointers at a page end and at the top of memory, and an index that wraps. -/
theorem witness_Jumps :
    (∃ lo s1 hi s2, read 0x12FF pointed = .ok lo s1 ∧ read (0x12FF + 1) s1 = .ok hi s2) ∧
    (∃ lo s1 hi s2, read 0xFFFF pointed = .ok lo s1 ∧ read (0xFFFF + 1) s1 = .ok hi s2) ∧
    (0x0008 : Word) = BitVec.ofNat 16 ((0xFFF8 : Word).toNat + pointed.x.toNat) ∧
    (∃ lo s1 hi s2, read 0x0008 pointed = .ok lo s1 ∧ read (0x0008 + 1) s1 = .ok hi s2) :=
  ⟨both_ok (k := fun _ => read (0x12FF + 1)) (by decide +kernel), both_ok (k := fun _ => read (0xFFFF + 1)) (by decide +kernel),
    by decide +kernel, both_ok (k := fun _ => read (0x0008 + 1)) (by decide +kernel)⟩

/-- `CallsAndReturns`, `BreakThenReturn`. -/
theorem witness_calls : State.powerOn.Inv ∧ State.powerOn.mode ≠ .stopped ∧ State.powerOn.p.i = false := ⟨witness_inv, by decide, rfl⟩

/-- `NoOperations`: an instruction under each clause. -/
theorem witness_NoOperations :
    [Instr.nop03.opcode, Instr.nopFB.opcode, (Instr.nop02 0xFF).opcode, (Instr.nop44 0xFF).opcode, (Instr.nopF4 0xFF).opcode,
      (Instr.nop5C 0xFFFF).opcode, (Instr.nopFC 0xFFFF).opcode, Instr.nop.opcode] = [0x03, 0xFB, 0x02, 0x44, 0xF4, 0x5C, 0xFC, 0xEA] := by
  decide +kernel

/-- `WaitAndStop`: masked and taken IRQ, NMI, reset, and host calls made in both modes. -/
theorem witness_WaitAndStop :
    ({ State.reset with mode := .waiting }.mode = .waiting ∧ { State.reset with mode := .waiting }.p.i = true) ∧
    ({ State.powerOn with mode := .waiting }.p.i = false ∧ ∃ t, irqCall { State.powerOn with mode := .waiting } = .next t) ∧
    (∃ t, nmiCall { State.powerOn with mode := .waiting } = .next t) ∧
    { State.powerOn with mode := .stopped }.mode = .stopped ∧ (∃ t, resetCall { State.powerOn with mode := .stopped } = .next t) ∧
    (∃ t, hostCall (.setSingleStep true) { State.powerOn with mode := .stopped } = .next t) ∧
    ∃ t, hostCall .irq { State.powerOn with mode := .waiting } = .next t :=
  ⟨⟨rfl, rfl⟩, ⟨rfl, next_of_nextIs (by decide +kernel)⟩, next_of_nextIs (by decide +kernel), rfl, next_of_nextIs (by decide +kernel),
    next_of_nextIs (by decide +kernel), next_of_nextIs (by decide +kernel)⟩

/-- `FrameRegisters` and `FrameFlags`: a store writes none of them. -/
theorem witness_frames : (∃ t, exec (.staZp 0xFF) pointed = .next t) ∧
    (Instr.staZp 0xFF).opcode ∉ writesA ++ writesX ++ writesY ++ writesSp ++ writesPc ++ writesMode ∧
    (Instr.staZp 0xFF).opcode ∉ writesC ++ writesZ ++ writesI ++ writesD ++ writesB ++ writesV ++ writesN :=
  ⟨next_of_nextIs (by decide +kernel), by decide +kernel, by decide +kernel⟩

/-- `FrameCells`, `FrameMemory`, `FrameDevices`: a store, and the address after the stored byte. -/
theorem witness_FrameMemory_store :
    (∃ t, exec (.staZp 0xFF) pointed = .next t) ∧ (accessAddrs (.staZp 0xFF) pointed).all quiet = true ∧
    backed 0x0100 pointed = true ∧ (∀ m, storeMode (.staZp 0xFF) = some m → (0x0100 : Word) ≠ effAddr m pointed) ∧
    (∀ k, k < pushes (.staZp 0xFF) → (0x0100 : Word) ≠ BitVec.ofNat 16 (0x100 + (pointed.sp - BitVec.ofNat 8 k).toNat)) ∧
    (Bank.main, 0x100) ∉ storedCells (.staZp 0xFF) pointed :=
  ⟨next_of_nextIs (by decide +kernel), by decide +kernel, by decide +kernel, fun m h => by cases h; decide +kernel, by decide +kernel,
    by decide +kernel⟩

/-- The same of a push of two bytes, and the address below them. -/
theorem witness_FrameMemory_push :
    (∃ t, exec (.jsr 0x1234) pointed = .next t) ∧ (accessAddrs (.jsr 0x1234) pointed).all quiet = true ∧
    backed 0x01FD pointed = true ∧ (∀ m, storeMode (.jsr 0x1234) = some m → (0x01FD : Word) ≠ effAddr m pointed) ∧
    (∀ k, k < pushes (.jsr 0x1234) → (0x01FD : Word) ≠ BitVec.ofNat 16 (0x100 + (pointed.sp - BitVec.ofNat 8 k).toNat)) ∧
    (Bank.main, 0x1FD) ∉ storedCells (.jsr 0x1234) pointed :=
  ⟨next_of_nextIs (by decide +kernel), by decide +kernel, by decide +kernel, fun _ h => (nomatch h), by decide +kernel, by decide +kernel⟩

/-- A power-on state with these switches. -/
def switched (sw : Switches) : State := { State.powerOn with sw := sw }

/-- The statement's ranges at an address: the zero page and stack, text page, hires page. -/
def region (a : Word) : List Bool :=
  [decide (a.toNat < 0xC000), decide (a.toNat < 0x0200), decide (0x0400 ≤ a.toNat ∧ a.toNat < 0x0800),
    decide (0x2000 ≤ a.toNat ∧ a.toNat < 0x4000)]

/-- `RamBanks`: the first and the last address of each region; 80STORE and HIRES on and off. -/
theorem witness_RamBanks :
    (([0x0000, 0x01FF] : List Word).map region = [[true, true, false, false], [true, true, false, false]]) ∧
    (([0x0400, 0x07FF] : List Word).map region = [[true, false, true, false], [true, false, true, false]]) ∧
    (([0x2000, 0x3FFF] : List Word).map region = [[true, false, false, true], [true, false, false, true]]) ∧
    (([0x0200, 0x03FF, 0x0800, 0x1FFF, 0x4000, 0xBFFF] : List Word).all (fun a => region a == [true, false, false, false])) = true ∧
    (switched { Switches.powerOn with store80 := true, hires := true }).sw.store80 = true ∧
    (switched { Switches.powerOn with store80 := true, hires := true }).sw.hires = true ∧
    State.powerOn.sw.store80 = false ∧ State.powerOn.sw.hires = false := by decide +kernel

/-- `LanguageCard`: the ends of both parts, and each of the four switch positions. -/
theorem witness_LanguageCard :
    (([0xD000, 0xDFFF, 0xE000, 0xFFFF] : List Word).all fun a => decide (0xD000 ≤ a.toNat)) = true ∧
    (switched { Switches.powerOn with lcread := true, lcwrite := true }).sw.lcread = true ∧
    (switched { Switches.powerOn with lcread := true, lcwrite := true }).sw.lcwrite = true ∧
    State.powerOn.sw.lcread = false ∧ State.powerOn.sw.lcwrite = false := by decide +kernel

/-- SLOTC3ROM on, slot 6 and the expansion ROM present. -/
def external : State := { switched { Switches.powerOn with slotc3rom := true } with expRom := some [] }

/-- `PeripheralRom`: slots 1, 3, 6 and 7, present and absent, and the ends of the expansion window. -/
theorem witness_PeripheralRom :
    (1 ≤ 1 ∧ 1 ≤ 7 ∧ 7 ≤ 7) ∧ (switched { Switches.powerOn with intcxrom := true }).sw.intcxrom = true ∧
    State.powerOn.sw.slotc3rom = false ∧ (external.sw.intcxrom = false ∧ external.sw.slotc3rom = true) ∧
    (external.slotRom.slot 6 = some [] ∧ external.slotRom.slot 3 = none ∧ external.slotRom.slot 1 = none ∧
      external.slotRom.slot 7 = none ∧ external.expRom = some []) ∧
    State.powerOn.expRom = none ∧ 0 < 0x800 ∧ 0x7FE < 0x800 ∧ 0x7FF < 0x800 := by decide +kernel

/-- RAMWRT on: writes go to the auxiliary memory, reads do not come from it. -/
def auxWrite : State := switched { Switches.powerOn with ramwrt := true }

/-- `ReadAfterWrite`: with the read path on the same array, and on another one. -/
theorem witness_ReadAfterWrite :
    (State.powerOn.Inv ∧ sink State.powerOn.sw 0xBFFF = .ram .main ∧ source State.powerOn.sw 0xBFFF = .ram .main) ∧
    (auxWrite.Inv ∧ sink auxWrite.sw 0x0200 = .ram .aux ∧ source auxWrite.sw 0x0200 ≠ .ram .aux) ∧ (0x0201 : Word) ≠ 0x0200 :=
  ⟨⟨witness_inv, by decide +kernel, by decide +kernel⟩, ⟨⟨witness_inv.ram_fits, witness_inv.rom_fits, witness_inv.slot_fits,
    witness_inv.exp_fits, witness_inv.drv0, witness_inv.drv1⟩, by decide +kernel, by decide +kernel⟩, by decide⟩

/-- `AccessKeeps`: a read and a write that answer, quiet addresses at the ends of their ranges, the first and last offset. -/
theorem witness_AccessKeeps :
    (∃ v t, read 0xC010 pointed = .ok v t) ∧ (∃ t, write 0xC08F 0 pointed = .ok () t) ∧
    ([0x0000, 0xBFFF, 0xC100, 0xCFFE, 0xD000, 0xFFFF] : List Word).all quiet = true ∧ 0 < 16 ∧ 15 < 16 :=
  ⟨ok_of_isOk (by decide +kernel), unit_ok (by decide +kernel), by decide +kernel, by decide, by decide⟩

/-- `FlagPairs`: the ends of the two ranges. -/
theorem witness_FlagPairs : (0 < 16 ∧ 15 < 16) ∧ (0x11 ≤ 0x11 ∧ 0x11 < 0x20 ∧ 0x11 ≤ 0x1F ∧ 0x1F < 0x20) := by decide

/-- `TwoAccessProperty`: one read or write from power-on. -/
theorem witness_TwoAccessProperty_single :
    State.powerOn.sw.lcpre = false ∧ State.powerOn.sw.lcwrite = false ∧
    (∃ w t, read (0xC080 + (0x1 : BitVec 4).setWidth 16) State.powerOn = .ok w t) ∧
    ∃ t, write (0xC080 + (0xF : BitVec 4).setWidth 16) 0 State.powerOn = .ok () t :=
  ⟨rfl, rfl, ok_of_isOk (by decide +kernel), unit_ok (by decide +kernel)⟩

/-- `TwoAccessProperty`: a read of 0xC08B and then a read or a write of 0xC081; and accesses on both sides of the range. -/
theorem witness_TwoAccessProperty_pair :
    ((0xB : BitVec 4).getLsbD 0 = true ∧ (0x1 : BitVec 4).getLsbD 0 = true) ∧
    (∃ w t w' u, read (0xC080 + (0xB : BitVec 4).setWidth 16) State.powerOn = .ok w t ∧
      read (0xC080 + (0x1 : BitVec 4).setWidth 16) t = .ok w' u) ∧
    (∃ w t w' u, read (0xC080 + (0xB : BitVec 4).setWidth 16) State.powerOn = .ok w t ∧
      write (0xC080 + (0x1 : BitVec 4).setWidth 16) 0 t = .ok w' u) ∧
    ((0xC07F : Word).toNat < 0xC080 ∧ 0xC090 ≤ (0xC100 : Word).toNat ∧ (∃ w t, read 0xC07F State.powerOn = .ok w t) ∧
      ∃ t, write 0xC100 0 State.powerOn = .ok () t) :=
  ⟨by decide +kernel, both_ok (k := fun _ => read (0xC080 + (0x1 : BitVec 4).setWidth 16)) (by decide +kernel),
    both_ok (k := fun _ => write (0xC080 + (0x1 : BitVec 4).setWidth 16) 0) (by decide +kernel),
    by decide, by decide, ok_of_isOk (by decide +kernel), unit_ok (by decide +kernel)⟩

theorem witness_DisplayAndAnnunciators :
    State.powerOn.sw.ioudis = false ∧ (switched { Switches.powerOn with ioudis := true }).sw.ioudis = true := ⟨rfl, rfl⟩

/-- `KeyboardAndInputs`: the ends of the ranges of unlisted addresses, and an input address. -/
theorem witness_KeyboardAndInputs :
    (∀ n ∈ [0x20, 0x4F, 0x60, 0x63, 0x66, 0x6F, 0x71, 0x7D, 0x90, 0xDF, 0xF0, 0xFF],
      (0x20 ≤ n ∧ n < 0x50) ∨ n = 0x60 ∨ n = 0x63 ∨ (0x66 ≤ n ∧ n < 0x70) ∨ (0x71 ≤ n ∧ n < 0x7E) ∨
        (0x90 ≤ n ∧ n < 0xE0) ∨ (0xF0 ≤ n ∧ n < 0x100)) ∧
    (0xC065 : Word) ∈ ([0xC061, 0xC062, 0xC064, 0xC065] : List Word) := ⟨by decide +kernel, by decide +kernel⟩

/-- `KeyboardAndInputs`: some address is an audio address. -/
theorem witness_audio : ∃ a, a ∈ Config.audioToggleAddrs :=
  List.exists_mem_of_length_pos (by rw [audioToggleAddrs_length]; decide)

/-- `KeyboardAndInputs`: among any four different addresses one is no audio address, so one of 0xC020, 0xC04F, 0xC060 and 0xC0FF is unlisted. -/
theorem witness_unlisted : ∃ n ∈ [0x20, 0x4F, 0x60, 0xFF], BitVec.ofNat 16 (0xC000 + n) ∉ Config.audioToggleAddrs := by
  obtain ⟨x, y, z, hl⟩ : ∃ x y z, Config.audioToggleAddrs = [x, y, z] := ⟨_, _, _, rfl⟩
  rw [hl]
  refine Classical.byContradiction fun h => ?_
  have h1 : ∀ n ∈ [0x20, 0x4F, 0x60, 0xFF], BitVec.ofNat 16 (0xC000 + n) ∈ [x, y, z] :=
    fun n hn => Classical.byContradiction fun hna => h ⟨n, hn, hna⟩
  have a := h1 0x20 (by decide)
  have b := h1 0x4F (by decide)
  have c := h1 0x60 (by decide)
  have d := h1 0xFF (by decide)
  simp only [List.mem_cons, List.not_mem_nil, or_false] at a b c d
  grind

/-- `Stepper`: phases 0 and 3, an access that changes the vector and one that does not, and both head moves. -/
theorem witness_Stepper :
    (0 < 4 ∧ 3 < 4) ∧ Drive.powerOn.ph.getLsbD 3 = false ∧ Drive.powerOn.ph.getLsbD 3 ≠ true ∧
    { Drive.powerOn with h1 := 0x1 }.h1.getLsbD ((3 + 1) % 4) = true ∧
    { Drive.powerOn with h1 := 0x4 }.h1.getLsbD ((3 + 3) % 4) = true := by decide +kernel

/-- `ShiftLatch`: the tracks 35, 34 and 0, in both modes. -/
theorem witness_ShiftLatch :
    35 ≤ { Drive.powerOn with halftrack := 69, track := 35 }.track ∧
    ({ Drive.powerOn with track := 34, writeMode := true }.track < 35 ∧ { Drive.powerOn with track := 34, writeMode := true }.writeMode = true) ∧
    (Drive.powerOn.track < 35 ∧ Drive.powerOn.writeMode = false) := by decide +kernel

/-- `Interrupts`: Stopped; I set; I clear, in Running, SingleStep and Waiting. -/
theorem witness_Interrupts :
    { State.powerOn with mode := .stopped }.mode = .stopped ∧ (State.reset.mode ≠ .stopped ∧ State.reset.p.i = true) ∧
    ∀ m ∈ [Mode.running, .singleStep, .waiting], { State.powerOn with mode := m }.mode ≠ .stopped ∧
      { State.powerOn with mode := m }.p.i = false := by decide +kernel

/-- `HostWrites`: a file of the right length, one a byte too short, one a byte too long, none; a unit that is read-only and one that is not; every mode. -/
theorem witness_HostWrites :
    (List.replicate 232960 (0x96 : Byte)).length = 232960 ∧ (List.replicate 232959 (0x96 : Byte)).length ≠ 232960 ∧
    (List.replicate 232961 (0x96 : Byte)).length ≠ 232960 ∧ loadSucceeds none = false ∧ loadSucceeds (some [0x96]) = false ∧
    ((withDrive { Drive.powerOn with readonly := true }).disk.drive .zero).readonly = true ∧
    (State.powerOn.disk.drive .one).readonly = false ∧
    (∀ m ∈ [Mode.running, .singleStep], { State.powerOn with mode := m }.mode = .running ∨ { State.powerOn with mode := m }.mode = .singleStep) ∧
    ∀ m ∈ [Mode.waiting, .stopped], { State.powerOn with mode := m }.mode = .waiting ∨ { State.powerOn with mode := m }.mode = .stopped :=
  ⟨List.length_replicate .., by rw [List.length_replicate]; decide, by rw [List.length_replicate]; decide, rfl, rfl, rfl, rfl,
    by decide +kernel, by decide +kernel⟩

/-- R449: the mode setter does not end Stopped; R448: a written state is taken whole, but for the model's own records. -/
theorem test_host_state :
    nextIs (hostCall (.setSingleStep false) { State.powerOn with mode := .stopped }) (fun t => decide (t.mode = .stopped)) = true ∧
    nextIs (hostCall (.setSingleStep true) State.powerOn) (fun t => decide (t.mode = .singleStep)) = true ∧
    nextIs (hostCall (.writeState { State.powerOn with a := 0x5A, rom := [(0x3FFD, 0x03)] }) { State.reset with draws := 3 }) (fun t =>
      decide (t.a = 0x5A) && decide (t.rom = [(0x3FFD, 0x03)]) && decide (t.draws = 3)) = true := by decide +kernel

/-- `StepKeepsInvariant`, `HostCallsKeepInvariant`. -/
theorem witness_steps : State.powerOn.Inv ∧ (∀ u, HostCall.writeState State.powerOn = .writeState u → u.Inv) ∧ (∃ t, step State.powerOn = .next t) ∧
    ∀ c ∈ [HostCall.reset, .irq, .nmi, .execute 5, .pressKey 0x41, .setReadonly .one true, .setSingleStep true, .loadImage .zero none,
      .saveImage .one, .readState, .writeState State.reset],
      ∃ t, hostCall c State.powerOn = .next t := by
  have h : ∀ c ∈ [HostCall.reset, .irq, .nmi, .execute 5, .pressKey 0x41, .setReadonly .one true, .setSingleStep true, .loadImage .zero none,
      .saveImage .one, .readState, .writeState State.reset],
      nextIs (hostCall c State.powerOn) (fun _ => true) = true := by decide +kernel
  exact ⟨witness_inv, fun u hu => by cases hu; exact witness_inv, next_of_nextIs (by decide +kernel), fun c hc => next_of_nextIs (h c hc)⟩

end Sys2Proof.Tests
end

section
/-! What an instruction changes of the processor: the parts that R21 to R25, R32 and R34 name writers for, and for each class of instruction
which of them it can change (O37, O38). -/

namespace Sys2Proof.Machine

open Host (Outcome)
open Sys2Proof.Claims

/-- The parts of the processor whose writers the rules name (R21 to R25, R32, R34). -/
inductive Part where
  | a | x | y | sp | pc | mode | c | z | i | d | b | v | n

/-- The opcodes that the rule of a part names as its writers. -/
def Part.writers : Part → List Byte
  | .a => writesA
  | .x => writesX
  | .y => writesY
  | .sp => writesSp
  | .pc => writesPc
  | .mode => writesMode
  | .c => writesC
  | .z => writesZ
  | .i => writesI
  | .d => writesD
  | .b => writesB
  | .v => writesV
  | .n => writesN

/-- The processor: the registers, the flags and the mode, without the cycle counter. -/
structure Processor where
  a : Byte
  x : Byte
  y : Byte
  sp : Byte
  pc : Word
  p : Status
  mode : Mode

/-- The processor of a state. -/
def State.cpu (s : State) : Processor := { a := s.a, x := s.x, y := s.y, sp := s.sp, pc := s.pc, p := s.p, mode := s.mode }

/-- A part is the same in two processors. -/
def Part.kept (r : Part) (k k' : Processor) : Prop :=
  match r with
  | .a => k'.a = k.a
  | .x => k'.x = k.x
  | .y => k'.y = k.y
  | .sp => k'.sp = k.sp
  | .pc => k'.pc = k.pc
  | .mode => k'.mode = k.mode
  | .c => k'.p.c = k.p.c
  | .z => k'.p.z = k.p.z
  | .i => k'.p.i = k.p.i
  | .d => k'.p.d = k.p.d
  | .b => k'.p.b = k.p.b
  | .v => k'.p.v = k.p.v
  | .n => k'.p.n = k.p.n

theorem Part.kept_trans {r : Part} {k k' k'' : Processor} (h : r.kept k k') (h' : r.kept k' k'') : r.kept k k'' := by
  cases r <;> exact h'.trans h

/-- At most the listed parts differ. -/
def Changes (ps : List Part) (k k' : Processor) : Prop := ∀ r, r ∉ ps → r.kept k k'

theorem Changes.trans {ps qs : List Part} {k k' k'' : Processor} (h : Changes ps k k') (h' : Changes qs k' k'') :
    Changes (ps ++ qs) k k'' :=
  fun r hr => Part.kept_trans (h r fun hp => hr (List.mem_append_left qs hp)) (h' r fun hq => hr (List.mem_append_right ps hq))

theorem Changes.refl (k : Processor) : Changes [] k k := fun r _ => by cases r <;> rfl

/-- `k` with one part taken from `k'`. -/
def Part.take (r : Part) (k' k : Processor) : Processor :=
  match r with
  | .a => { k with a := k'.a }
  | .x => { k with x := k'.x }
  | .y => { k with y := k'.y }
  | .sp => { k with sp := k'.sp }
  | .pc => { k with pc := k'.pc }
  | .mode => { k with mode := k'.mode }
  | .c => { k with p := { k.p with c := k'.p.c } }
  | .z => { k with p := { k.p with z := k'.p.z } }
  | .i => { k with p := { k.p with i := k'.p.i } }
  | .d => { k with p := { k.p with d := k'.p.d } }
  | .b => { k with p := { k.p with b := k'.p.b } }
  | .v => { k with p := { k.p with v := k'.p.v } }
  | .n => { k with p := { k.p with n := k'.p.n } }

theorem Part.kept_take {q r : Part} (h : r ≠ q) (k' k : Processor) : r.kept k (q.take k' k) := by
  cases q <;> cases r <;> first | rfl | exact absurd rfl h

theorem changes_foldr_take (ps : List Part) (k' k : Processor) : Changes ps k (ps.foldr (·.take k') k) := by
  induction ps with
  | nil => exact Changes.refl k
  | cons q qs ih =>
    intro r hr
    obtain ⟨hq, hqs⟩ := not_or.mp fun hm => hr (List.mem_cons.mpr hm)
    exact Part.kept_trans (ih r hqs) (Part.kept_take hq k' _)

/-- What is the old processor with the listed parts taken from the new one differs in those parts only: for an update of known fields this
holds by computation. -/
theorem Changes.of_take {ps : List Part} {k k' : Processor} (h : ps.foldr (·.take k') k = k') : Changes ps k k' := by
  have hc := changes_foldr_take ps k' k
  rwa [h] at hc

/-! What leaves the processor alone. -/

theorem SameButDevices.cpu_eq {s t : State} (h : SameButDevices s t) : t.cpu = s.cpu := by rw [h]; rfl

@[simp] theorem State.tick_cpu (s : State) (n : Nat) : (s.tick n).cpu = s.cpu := rfl

@[simp] theorem charge_cpu (c : Cost) (x : Bool) (s : State) : (charge c x s).cpu = s.cpu := rfl

/-- A write changes no part of the processor, whatever status is set after it. -/
theorem write_cpu {a : Word} {v : Byte} {s t : State} (h : write a v s = .ok () t) (q : Status) :
    { t with p := q }.cpu = { s with p := q }.cpu := by
  obtain ⟨b, -, rfl⟩ | ⟨-, hs⟩ := write_cases h
  · rfl
  · rw [hs]; rfl

/-! What each class of instruction changes, from what its effect on the registers changes. -/

section
variable {ps : List Part} {s t : State}

theorem withRead_changes {o : Operand} {c : Cost} {k : Byte → State → State} (h : withRead o c k s = .next t)
    (hk : ∀ (v : Byte) (u : State), Changes ps u.cpu (k v u).cpu) : Changes ps s.cpu t.cpu := by
  obtain ⟨v, s1, cross, hs, -, rfl⟩ := withRead_next h
  rw [charge_cpu, ← hs.cpu_eq]
  exact hk v s1

theorem withWrite_changes {m : MemMode} {c : Cost} {v : State → Byte} (h : withWrite m c v s = .next t) : Changes [] s.cpu t.cpu := by
  obtain ⟨s1, hw, rfl⟩ := withWrite_next h
  obtain ⟨b, -, rfl⟩ | ⟨-, hs⟩ := write_cases hw
  · exact Changes.refl _
  · rw [charge_cpu, hs.cpu_eq]
    exact Changes.refl _

theorem withModify_changes {m : MemMode} {c : Cost} {f : State → Byte → Byte × Status} (h : withModify (.mem m) c f s = .next t)
    (hf : ∀ (v : Byte) (u : State), Changes ps u.cpu { u with p := (f u v).2 }.cpu) : Changes ps s.cpu t.cpu := by
  obtain ⟨v, s1, s2, hr, hw, rfl⟩ := withModify_next h
  rw [charge_cpu, write_cpu hw, ← (read_same hr).cpu_eq]
  exact hf v s1

theorem withModifyAcc_changes {c : Cost} {f : State → Byte → Byte × Status} (h : withModify .acc c f s = .next t)
    (hf : ∀ u : State, Changes ps u.cpu { u with a := (f u u.a).1, p := (f u u.a).2 }.cpu) : Changes ps s.cpu t.cpu := by
  cases h
  exact hf s

theorem withNone_changes {c : Nat} {k : State → State} (h : withNone c k s = .next t) (hk : ∀ u : State, Changes ps u.cpu (k u).cpu) :
    Changes ps s.cpu t.cpu := by
  cases h
  exact hk s

theorem withPush_changes {v : State → Byte} (h : withPush v s = .next t) : Changes [.sp] s.cpu t.cpu := by
  rw [withPush_eq] at h
  cases h
  exact .of_take rfl

theorem withPull_changes {k : Byte → State → State} (h : withPull k s = .next t) (hk : ∀ (v : Byte) (u : State), Changes ps u.cpu (k v u).cpu) :
    Changes (.sp :: ps) s.cpu t.cpu := by
  rw [withPull_eq] at h
  cases h
  have hsp : Changes [.sp] s.cpu { s with sp := s.sp + 1 }.cpu := .of_take rfl
  exact hsp.trans (hk _ _)

theorem jumpThrough_changes {p : Word} (h : jumpThrough p s = .next t) : Changes [.pc] s.cpu t.cpu := by
  obtain ⟨w, s2, hs, -, rfl⟩ := jumpThrough_next h
  rw [State.tick_cpu, ← hs.cpu_eq]
  exact .of_take rfl

theorem branchIf_changes (base : Nat) (taken : Bool) (rel : Byte) (s : State) : Changes [.pc] s.cpu (branchIf base taken rel s).cpu := by
  cases taken
  · exact fun r _ => Changes.refl s.cpu r List.not_mem_nil
  · exact .of_take rfl

theorem branchOnBit_changes {k : Nat} {want : Bool} {z rel : Byte} (h : branchOnBit k want z rel s = .next t) :
    Changes [.pc] s.cpu t.cpu := by
  rw [branchOnBit_eq] at h
  cases h
  exact branchIf_changes _ _ _ _

end

/-! ADC, the calls, the returns and BRK. -/

/-- Both arms of ADC change the accumulator, C, Z, V and N (R251). -/
theorem adcResult_changes (u : State) (m : Byte) :
    Changes [.a, .c, .z, .v, .n] u.cpu { u with a := (adcResult u.p u.a m).1, p := (adcResult u.p u.a m).2 }.cpu := by
  unfold adcResult
  split
  · exact .of_take rfl
  · exact .of_take rfl

section
variable {s t : State}

theorem execBra_changes {rel : Byte} (h : execBra rel s = .next t) : Changes [.pc] s.cpu t.cpu := by
  cases h
  exact .of_take rfl

theorem execJsr_changes {w : Word} (h : execJsr w s = .next t) : Changes [.sp, .pc] s.cpu t.cpu := by
  unfold execJsr at h
  rw [pushWord_eq] at h
  cases h
  exact .of_take rfl

theorem execRts_changes (h : execRts s = .next t) : Changes [.sp, .pc] s.cpu t.cpu := by
  unfold execRts at h
  rw [pullWord_eq] at h
  cases h
  exact .of_take rfl

theorem execRti_changes (h : execRti s = .next t) : Changes [.sp, .pc, .c, .z, .i, .d, .b, .v, .n] s.cpu t.cpu := by
  unfold execRti at h
  rw [returnFromHandler_eq] at h
  cases h
  exact .of_take rfl

theorem execBrk_changes (h : execBrk s = .next t) : Changes [.sp, .pc, .i, .d, .b] s.cpu t.cpu := by
  obtain ⟨r, -, he⟩ := enterHandler_eq 0xFFFE true { s with pc := s.pc + 1 } (by decide) (by decide)
  unfold execBrk at h
  rw [he] at h
  cases h
  exact .of_take rfl

end

/-- The parts that an instruction can change (R21 to R25, R32, R34). -/
def partsOf (i : Instr) : List Part :=
  match i with
  | .ldaIzx _ | .ldaZp _ | .ldaImm _ | .ldaAbs _ | .ldaIzy _ | .ldaZpi _ | .ldaZpx _ | .ldaAby _ | .ldaAbx _ | .andIzx _ | .andZp _
  | .andImm _ | .andAbs _ | .andIzy _ | .andZpi _ | .andZpx _ | .andAby _ | .andAbx _ | .oraIzx _ | .oraZp _ | .oraImm _
  | .oraAbs _ | .oraIzy _ | .oraZpi _ | .oraZpx _ | .oraAby _ | .oraAbx _ | .eorIzx _ | .eorZp _ | .eorImm _ | .eorAbs _
  | .eorIzy _ | .eorZpi _ | .eorZpx _ | .eorAby _ | .eorAbx _ | .incAcc | .decAcc | .txa | .tya => [.a, .z, .n]
  | .ldxImm _ | .ldxZp _ | .ldxAbs _ | .ldxZpy _ | .ldxAby _ | .tax | .tsx | .inx | .dex => [.x, .z, .n]
  | .ldyImm _ | .ldyZp _ | .ldyAbs _ | .ldyZpx _ | .ldyAbx _ | .tay | .iny | .dey => [.y, .z, .n]
  | .adcIzx _ | .adcZp _ | .adcImm _ | .adcAbs _ | .adcIzy _ | .adcZpi _ | .adcZpx _ | .adcAby _ | .adcAbx _ | .sbcIzx _ | .sbcZp _
  | .sbcImm _ | .sbcAbs _ | .sbcIzy _ | .sbcZpi _ | .sbcZpx _ | .sbcAby _ | .sbcAbx _ => [.a, .c, .z, .v, .n]
  | .cmpIzx _ | .cmpZp _ | .cmpImm _ | .cmpAbs _ | .cmpIzy _ | .cmpZpi _ | .cmpZpx _ | .cmpAby _ | .cmpAbx _ | .cpxImm _ | .cpxZp _
  | .cpxAbs _ | .cpyImm _ | .cpyZp _ | .cpyAbs _ | .aslZp _ | .aslAbs _ | .aslZpx _ | .aslAbx _ | .lsrZp _ | .lsrAbs _ | .lsrZpx _
  | .lsrAbx _ | .rolZp _ | .rolAbs _ | .rolZpx _ | .rolAbx _ | .rorZp _ | .rorAbs _ | .rorZpx _ | .rorAbx _ => [.c, .z, .n]
  | .bitZp _ | .bitAbs _ | .bitZpx _ | .bitAbx _ => [.z, .v, .n]
  | .bitImm _ | .tsbZp _ | .tsbAbs _ | .trbZp _ | .trbAbs _ => [.z]
  | .incZp _ | .incAbs _ | .incZpx _ | .incAbx _ | .decZp _ | .decAbs _ | .decZpx _ | .decAbx _ => [.z, .n]
  | .aslAcc | .lsrAcc | .rolAcc | .rorAcc => [.a, .c, .z, .n]
  | .jmpAbs _ | .jmpInd _ | .jmpIax _ | .bpl _ | .bmi _ | .bvc _ | .bvs _ | .bcc _ | .bcs _ | .bne _ | .beq _ | .bra _ | .bbr0 _ _
  | .bbr1 _ _ | .bbr2 _ _ | .bbr3 _ _ | .bbr4 _ _ | .bbr5 _ _ | .bbr6 _ _ | .bbr7 _ _ | .bbs0 _ _ | .bbs1 _ _ | .bbs2 _ _
  | .bbs3 _ _ | .bbs4 _ _ | .bbs5 _ _ | .bbs6 _ _ | .bbs7 _ _ => [.pc]
  | .jsr _ | .rts => [.sp, .pc]
  | .rti => [.sp, .pc, .c, .z, .i, .d, .b, .v, .n]
  | .brk => [.sp, .pc, .i, .d, .b]
  | .txs | .php | .pha | .phx | .phy => [.sp]
  | .pla => [.sp, .a, .z, .n]
  | .plx => [.sp, .x, .z, .n]
  | .ply => [.sp, .y, .z, .n]
  | .plp => [.sp, .c, .z, .i, .d, .b, .v, .n]
  | .clc | .sec => [.c]
  | .cli | .sei => [.i]
  | .cld | .sed => [.d]
  | .clv => [.v]
  | .wai | .stp => [.mode]
  | _ => []

/-- Whatever an instruction can change has it among its named writers. -/
theorem partsOf_writers (i : Instr) : (partsOf i).all (fun r => r.writers.contains i.opcode) = true := by
  cases i <;> rfl

-- The classes stay folded, so that `h` is matched against a class and not against its body.
seal withRead withModify withWrite withNone withPush withPull branchOnBit branchIf jumpThrough in
/-- An instruction changes at most its parts. -/
theorem exec_changes {i : Instr} {s t : State} (h : exec i s = .next t) : Changes (partsOf i) s.cpu t.cpu := by
  cases i with
  | ldaIzx | ldaZp | ldaImm | ldaAbs | ldaIzy | ldaZpi | ldaZpx | ldaAby | ldaAbx | andIzx | andZp | andImm | andAbs | andIzy
  | andZpi | andZpx | andAby | andAbx | oraIzx | oraZp | oraImm | oraAbs | oraIzy | oraZpi | oraZpx | oraAby | oraAbx | eorIzx
  | eorZp | eorImm | eorAbs | eorIzy | eorZpi | eorZpx | eorAby | eorAbx | ldxImm | ldxZp | ldxAbs | ldxZpy | ldxAby | ldyImm
  | ldyZp | ldyAbs | ldyZpx | ldyAbx | sbcIzx | sbcZp | sbcImm | sbcAbs | sbcIzy | sbcZpi | sbcZpx | sbcAby | sbcAbx | cmpIzx
  | cmpZp | cmpImm | cmpAbs | cmpIzy | cmpZpi | cmpZpx | cmpAby | cmpAbx | cpxImm | cpxZp | cpxAbs | cpyImm | cpyZp | cpyAbs
  | bitZp | bitAbs | bitZpx | bitAbx | bitImm =>
    exact withRead_changes h fun _ _ => .of_take rfl
  | staIzx | staZp | staAbs | staIzy | staZpi | staZpx | staAby | staAbx | stxZp | stxAbs | stxZpy | styZp | styAbs | styZpx
  | stzZp | stzZpx | stzAbs | stzAbx =>
    exact withWrite_changes h
  | adcIzx | adcZp | adcImm | adcAbs | adcIzy | adcZpi | adcZpx | adcAby | adcAbx =>
    exact withRead_changes h fun v u => adcResult_changes u v
  | incZp | incAbs | incZpx | incAbx | decZp | decAbs | decZpx | decAbx | tsbZp | tsbAbs | trbZp | trbAbs | aslZp | aslAbs | aslZpx
  | aslAbx | lsrZp | lsrAbs | lsrZpx | lsrAbx | rolZp | rolAbs | rolZpx | rolAbx | rorZp | rorAbs | rorZpx | rorAbx | rmb0 | rmb1
  | rmb2 | rmb3 | rmb4 | rmb5 | rmb6 | rmb7 | smb0 | smb1 | smb2 | smb3 | smb4 | smb5 | smb6 | smb7 =>
    exact withModify_changes h fun _ _ => .of_take rfl
  | incAcc | decAcc | aslAcc | lsrAcc | rolAcc | rorAcc =>
    exact withModifyAcc_changes h fun _ => .of_take rfl
  | jmpAbs | txa | tya | tax | tsx | inx | dex | tay | iny | dey | txs | clc | sec | cli | sei | cld | sed | clv | wai | stp
  | nop02 | nop22 | nop42 | nop62 | nop82 | nopC2 | nopE2 | nop44 | nop54 | nopD4 | nopF4 | nop5C | nopDC | nopFC | nop03 | nop0B
  | nop13 | nop1B | nop23 | nop2B | nop33 | nop3B | nop43 | nop4B | nop53 | nop5B | nop63 | nop6B | nop73 | nop7B | nop83 | nop8B
  | nop93 | nop9B | nopA3 | nopAB | nopB3 | nopBB | nopC3 | nopD3 | nopE3 | nopEB | nopF3 | nopFB | nop =>
    exact withNone_changes h fun _ => .of_take rfl
  | jmpInd | jmpIax =>
    exact jumpThrough_changes h
  | bpl | bmi | bvc | bvs | bcc | bcs | bne | beq =>
    exact Outcome.next.inj h ▸ branchIf_changes _ _ _ _
  | bra =>
    exact execBra_changes h
  | bbr0 | bbr1 | bbr2 | bbr3 | bbr4 | bbr5 | bbr6 | bbr7 | bbs0 | bbs1 | bbs2 | bbs3 | bbs4 | bbs5 | bbs6 | bbs7 =>
    exact branchOnBit_changes h
  | jsr =>
    exact execJsr_changes h
  | rts =>
    exact execRts_changes h
  | rti =>
    exact execRti_changes h
  | brk =>
    exact execBrk_changes h
  | php | pha | phx | phy =>
    exact withPush_changes h
  | pla | plx | ply | plp =>
    exact withPull_changes h fun _ _ => .of_take rfl

/-- Only the named writers of a part change it (R21 to R25, R32, R34). -/
theorem exec_frame {i : Instr} {s t : State} (h : exec i s = .next t) (r : Part) (hr : i.opcode ∉ r.writers) : r.kept s.cpu t.cpu :=
  exec_changes h r fun hm => hr (List.contains_iff_mem.mp (List.all_eq_true.mp (partsOf_writers i) r hm))

/-- Settles O37: what an instruction changes has it among its named writers, for the registers and the mode. -/
theorem frameRegisters : Obligations.FrameRegisters := fun _ _ _ h =>
  ⟨exec_frame h .a, exec_frame h .x, exec_frame h .y, exec_frame h .sp, exec_frame h .pc, exec_frame h .mode⟩

/-- Settles O38: the same for the flags. -/
theorem frameFlags : Obligations.FrameFlags := fun _ _ _ h =>
  ⟨exec_frame h .c, exec_frame h .z, exec_frame h .i, exec_frame h .d, exec_frame h .b, exec_frame h .v, exec_frame h .n⟩

end Sys2Proof.Machine
end

section
/-! What an instruction changes outside the processor: the reads and the one write, or the pushes, that it makes (O39, O40), and so that every
step and every host call keeps the invariant (O59, O60). -/

namespace Sys2Proof.Machine

open Host (Outcome)
open Sys2Proof.Claims

/-- The two states differ at most in the processor and its cycle counter: every array and every device is the same. -/
def SameButProcessor (s t : State) : Prop :=
  t = { s with a := t.a, x := t.x, y := t.y, sp := t.sp, pc := t.pc, p := t.p, ticks := t.ticks, mode := t.mode }

section
variable {s t : State} (h : SameButProcessor s t)
include h

theorem SameButProcessor.ram_eq : t.ram = s.ram := by rw [h]
theorem SameButProcessor.rom_eq : t.rom = s.rom := by rw [h]
theorem SameButProcessor.slotRom_eq : t.slotRom = s.slotRom := by rw [h]
theorem SameButProcessor.expRom_eq : t.expRom = s.expRom := by rw [h]
theorem SameButProcessor.sw_eq : t.sw = s.sw := by rw [h]
theorem SameButProcessor.disk_eq : t.disk = s.disk := by rw [h]

theorem SameButProcessor.trans {u : State} (h' : SameButProcessor t u) : SameButProcessor s u := by
  unfold SameButProcessor at *
  rw [h', h]

theorem SameButProcessor.tick (n : Nat) : SameButProcessor s (t.tick n) := h.trans rfl

theorem SameButProcessor.inv (hs : s.Inv) : t.Inv :=
  ⟨by rw [h.ram_eq]; exact hs.ram_fits, by rw [h.rom_eq]; exact hs.rom_fits, by rw [h.slotRom_eq]; exact hs.slot_fits,
    by rw [h.expRom_eq]; exact hs.exp_fits, by rw [h.disk_eq]; exact hs.drv0, by rw [h.disk_eq]; exact hs.drv1⟩

end

/-! Reads one after the other. -/

/-- From `s`, read accesses at these addresses in this order lead to `t`. -/
def Reads : List Word → State → State → Prop
  | [], s, t => t = s
  | a :: as, s, t => ∃ v s1, read a s = .ok v s1 ∧ Reads as s1 t

section
variable {as : List Word} {s t : State}

theorem Reads.same (h : Reads as s t) : SameButDevices s t := by
  induction as generalizing s with
  | nil => exact h ▸ SameButDevices.refl s
  | cons a as ih =>
    obtain ⟨v, s1, hr, h⟩ := h
    exact (read_same hr).trans (ih h)

theorem Reads.inv (h : Reads as s t) (hs : s.Inv) : t.Inv := by
  induction as generalizing s with
  | nil => exact h ▸ hs
  | cons a as ih =>
    obtain ⟨v, s1, hr, h⟩ := h
    exact ih h (read_inv hs hr)

/-- Reads of quiet addresses change nothing (R65). -/
theorem Reads.eq_of_quiet (h : Reads as s t) (hq : ∀ a ∈ as, quiet a = true) : t = s := by
  induction as generalizing s with
  | nil => exact h
  | cons a as ih =>
    obtain ⟨v, s1, hr, h⟩ := h
    rw [read_quiet (hq a List.mem_cons_self)] at hr
    cases hr
    exact ih h fun a' ha' => hq a' (List.mem_cons_of_mem a ha')

end

/-- The window of the soft switches takes every write to it, whatever the switches hold (R90). -/
theorem sink_switch {sw : Switches} {a : Word} (h : 0xC000 ≤ a.toNat ∧ a.toNat < 0xC100) : sink sw a = .switch := by
  simp only [sink]
  rw [if_neg (by omega), if_pos h.2]

/-- A read cannot change which array takes a write to the address read: only reads in the window of the soft switches change a switch. -/
theorem sink_of_read {a : Word} {v : Byte} {s t : State} (h : read a s = .ok v t) : sink t.sw a = sink s.sw a := by
  by_cases hw : 0xC000 ≤ a.toNat ∧ a.toNat < 0xC100
  · rw [sink_switch hw, sink_switch hw]
  · rw [read_eq_peek (by omega)] at h
    cases h
    rw [expansionOff_sw]

/-! Pushes one after the other. -/

/-- Bytes pushed one after the other, the first at `sp`, into the array that serves the stack (R230). -/
def pushBytes (b : Bank) : List Byte → Byte → Ram → Ram
  | [], _, r => r
  | v :: vs, sp, r => pushBytes b vs (sp - 1) (r.store b (0x100 + sp.toNat) v)

/-- The cells that a number of pushes stores to, the first at `sp`. -/
def pushCells (b : Bank) (n : Nat) (sp : Byte) : List (Bank × Nat) :=
  (List.range n).map fun k => (b, 0x100 + (sp - BitVec.ofNat 8 k).toNat)

theorem pushCells_succ (b : Bank) (n : Nat) (sp : Byte) :
    pushCells b (n + 1) sp = (b, 0x100 + sp.toNat) :: pushCells b n (sp - 1) := by
  have hk : ∀ k, sp - BitVec.ofNat 8 (k + 1) = sp - 1 - BitVec.ofNat 8 k := fun k => by bv_omega
  simp only [pushCells, List.range_succ_eq_map, List.map_cons, List.map_map, BitVec.sub_zero, Function.comp_def, Nat.succ_eq_add_one, hk]

/-- Pushes leave every other cell alone. -/
theorem byteAt_pushBytes {b b' : Bank} {j : Nat} {vs : List Byte} {sp : Byte} {r : Ram} (h : (b', j) ∉ pushCells b vs.length sp) :
    (pushBytes b vs sp r).byteAt b' j = r.byteAt b' j := by
  induction vs generalizing sp r with
  | nil => rfl
  | cons v vs ih =>
    rw [List.length_cons, pushCells_succ, List.mem_cons, not_or] at h
    obtain ⟨hne, hrest⟩ := h
    rw [pushBytes, ih hrest, Ram.byteAt_store_other]
    by_cases hb : b' = b
    · exact .inr fun hj => hne (by rw [hb, hj])
    · exact .inl hb

theorem zeroBank_size (sw : Switches) : (zeroBank sw).size = 0xC000 := by
  unfold zeroBank
  split <;> rfl

/-- Pushes keep every array's form and size. -/
theorem pushBytes_fits {sw : Switches} {vs : List Byte} {sp : Byte} {r : Ram} (h : ∀ b, (r.bank b).fits b.size = true) :
    ∀ b, ((pushBytes (zeroBank sw) vs sp r).bank b).fits b.size = true := by
  induction vs generalizing sp r with
  | nil => exact h
  | cons v vs ih =>
    have hsp := sp.isLt
    exact ih (Ram.fits_store r _ _ v h (by rw [zeroBank_size]; omega))

/-- The state after pushed bytes, the stack pointer aside. -/
def pushed (vs : List Byte) (s : State) : State := { s with ram := pushBytes (zeroBank s.sw) vs s.sp s.ram }

theorem pushed_inv {s : State} (h : s.Inv) (vs : List Byte) : (pushed vs s).Inv :=
  ⟨pushBytes_fits h.ram_fits, h.rom_fits, h.slot_fits, h.exp_fits, h.drv0, h.drv1⟩

/-- Entering a handler pushes three bytes and changes the processor (R376, R434). -/
theorem enterHandler_pushed {vector : Word} {brk : Bool} {s t : State} (h1 : quiet vector = true) (h2 : quiet (vector + 1) = true)
    (h : enterHandler vector brk s = .ok () t) :
    ∃ vs : List Byte, vs.length = 3 ∧ SameButProcessor (pushed vs s) t := by
  obtain ⟨r, hr, he⟩ := enterHandler_eq vector brk s h1 h2
  rw [he] at h
  cases h
  exact ⟨[hiByte s.pc, loByte s.pc, { s.p with b := brk }.pack], rfl, by subst hr; rfl⟩

/-! What an instruction does to memory and devices. -/

/-- What an instruction does outside the processor when it answers a next state. -/
inductive Outside (i : Instr) (s t : State) : Prop where
  /-- It reads at its accesses' addresses, or nowhere, and stores nothing. -/
  | load {as : List Word} {s1 : State} (mode : storeMode i = none) (addrs : as ⊆ accessAddrs i s) (reads : Reads as s s1)
      (rest : SameButProcessor s1 t)
  /-- It writes once at its effective address, before which it may read there. -/
  | store {m : MemMode} {as : List Word} {v : Byte} {s1 s2 : State} (mode : storeMode i = some m) (addrs : as ⊆ [effAddr m s])
      (reads : Reads as s s1) (write : write (effAddr m s) v s1 = .ok () s2) (rest : SameButProcessor s2 t)
  /-- It pushes bytes. -/
  | push {vs : List Byte} (mode : storeMode i = none) (count : vs.length = pushes i) (rest : SameButProcessor (pushed vs s) t)

/-- A storing instruction's one access stands at its effective address. -/
theorem accessAddrs_of_store {i : Instr} {m : MemMode} (h : storeMode i = some m) (s : State) : accessAddrs i s = [effAddr m s] := by
  unfold accessAddrs
  split
  · cases h
  · cases h
  · rw [h]

/-- The address of an operand, if it is in memory. -/
def Operand.addrs (o : Operand) (s : State) : List Word :=
  match o with
  | .imm _ => []
  | .mem m => [effAddr m s]

section
variable {i : Instr} {s t : State}

/-- No access but zero-page pointers and pulls, which have no side effect (R65, R191). -/
theorem Outside.quiet (hs : storeMode i = none) (h : SameButProcessor s t) : Outside i s t :=
  .load hs (List.nil_subset _) rfl h

theorem withRead_outside {o : Operand} {c : Cost} {k : Byte → State → State} (h : withRead o c k s = .next t)
    (hk : ∀ v u, SameButProcessor u (k v u)) (hs : storeMode i = none) (ha : accessAddrs i s = o.addrs s) : Outside i s t := by
  cases o with
  | imm v =>
    cases h
    exact .quiet hs ((hk v s).tick _)
  | mem m =>
    rw [withRead_mem] at h
    obtain ⟨v, s1, hr, h⟩ := Res.bind_eq_ok (Res.outcome_eq_next h)
    cases h
    exact .load (as := [effAddr m s]) hs (ha ▸ List.Subset.refl _) ⟨v, s1, hr, rfl⟩ ((hk v s1).tick _)

theorem withWrite_outside {m : MemMode} {c : Cost} {v : State → Byte} (h : withWrite m c v s = .next t) (hs : storeMode i = some m) :
    Outside i s t := by
  obtain ⟨s1, hw, rfl⟩ := withWrite_next h
  exact .store hs (List.nil_subset _) rfl hw rfl

theorem withModify_outside {m : MemMode} {c : Cost} {f : State → Byte → Byte × Status} (h : withModify (.mem m) c f s = .next t)
    (hs : storeMode i = some m) : Outside i s t := by
  obtain ⟨v, s1, s2, hr, hw, rfl⟩ := withModify_next h
  exact .store hs (List.Subset.refl _) ⟨v, s1, hr, rfl⟩ hw rfl

theorem withModifyAcc_outside {c : Cost} {f : State → Byte → Byte × Status} (h : withModify .acc c f s = .next t)
    (hs : storeMode i = none) : Outside i s t := by
  cases h
  exact .quiet hs rfl

theorem withNone_outside {c : Nat} {k : State → State} (h : withNone c k s = .next t) (hk : SameButProcessor s (k s))
    (hs : storeMode i = none) : Outside i s t := by
  cases h
  exact .quiet hs (hk.tick c)

theorem withPush_outside {v : State → Byte} (h : withPush v s = .next t) (hs : storeMode i = none) (hp : pushes i = 1) :
    Outside i s t := by
  rw [withPush_eq] at h
  cases h
  exact .push (vs := [v s]) hs hp.symm rfl

theorem withPull_outside {k : Byte → State → State} (h : withPull k s = .next t) (hk : ∀ v u, SameButProcessor u (k v u))
    (hs : storeMode i = none) : Outside i s t := by
  rw [withPull_eq] at h
  cases h
  have hsp : SameButProcessor s { s with sp := s.sp + 1 } := rfl
  exact .quiet hs ((hsp.trans (hk _ _)).tick 4)

theorem jumpThrough_outside {p : Word} (h : jumpThrough p s = .next t) (hs : storeMode i = none) (ha : accessAddrs i s = [p, p + 1]) :
    Outside i s t := by
  rw [jumpThrough_eq] at h
  obtain ⟨lo, s1, hr1, h⟩ := Res.bind_eq_ok (Res.outcome_eq_next h)
  obtain ⟨hi, s2, hr2, h⟩ := Res.bind_eq_ok h
  cases h
  exact .load (as := [p, p + 1]) hs (ha ▸ List.Subset.refl _) ⟨lo, s1, hr1, hi, s2, hr2, rfl⟩ rfl

theorem branchIf_same (base : Nat) (taken : Bool) (rel : Byte) (s : State) : SameButProcessor s (branchIf base taken rel s) := by
  cases taken <;> rfl

theorem branchOnBit_outside {k : Nat} {want : Bool} {z rel : Byte} (h : branchOnBit k want z rel s = .next t)
    (hs : storeMode i = none) : Outside i s t := by
  rw [branchOnBit_eq] at h
  cases h
  exact .quiet hs (branchIf_same _ _ _ _)

end

section
variable {s t : State}

theorem execJsr_outside {w : Word} (h : execJsr w s = .next t) : Outside (.jsr w) s t := by
  unfold execJsr at h
  rw [pushWord_eq] at h
  cases h
  exact .push (vs := [hiByte (s.pc - 1), loByte (s.pc - 1)]) rfl rfl rfl

theorem execRts_outside (h : execRts s = .next t) : Outside .rts s t := by
  unfold execRts at h
  rw [pullWord_eq] at h
  cases h
  exact .quiet rfl rfl

theorem execRti_outside (h : execRti s = .next t) : Outside .rti s t := by
  unfold execRti at h
  rw [returnFromHandler_eq] at h
  cases h
  exact .quiet rfl rfl

theorem execBrk_outside (h : execBrk s = .next t) : Outside .brk s t := by
  obtain ⟨u, s1, he, h⟩ := Res.bind_eq_ok (Res.outcome_eq_next h)
  obtain ⟨vs, hvs, hsame⟩ := enterHandler_pushed (by decide) (by decide) he
  cases h
  exact .push rfl hvs (by unfold SameButProcessor at *; rw [hsame]; rfl)

end

-- The classes stay folded, so that `h` is matched against a class and not against its body.
seal withRead withModify withWrite withNone withPush withPull branchOnBit branchIf jumpThrough in
/-- Every instruction that answers a next state reads, stores or pushes as R191 and R230 have it, and does nothing else outside the
processor. -/
theorem exec_outside {i : Instr} {s t : State} (h : exec i s = .next t) : Outside i s t := by
  cases i with
  | ldaIzx | ldaZp | ldaImm | ldaAbs | ldaIzy | ldaZpi | ldaZpx | ldaAby | ldaAbx | andIzx | andZp | andImm | andAbs | andIzy
  | andZpi | andZpx | andAby | andAbx | oraIzx | oraZp | oraImm | oraAbs | oraIzy | oraZpi | oraZpx | oraAby | oraAbx | eorIzx
  | eorZp | eorImm | eorAbs | eorIzy | eorZpi | eorZpx | eorAby | eorAbx | adcIzx | adcZp | adcImm | adcAbs | adcIzy | adcZpi
  | adcZpx | adcAby | adcAbx | sbcIzx | sbcZp | sbcImm | sbcAbs | sbcIzy | sbcZpi | sbcZpx | sbcAby | sbcAbx | cmpIzx | cmpZp
  | cmpImm | cmpAbs | cmpIzy | cmpZpi | cmpZpx | cmpAby | cmpAbx | ldxImm | ldxZp | ldxAbs | ldxZpy | ldxAby | ldyImm | ldyZp
  | ldyAbs | ldyZpx | ldyAbx | cpxImm | cpxZp | cpxAbs | cpyImm | cpyZp | cpyAbs | bitImm | bitZp | bitAbs | bitZpx | bitAbx =>
    exact withRead_outside h (fun _ _ => rfl) rfl rfl
  | staIzx | staZp | staAbs | staIzy | staZpi | staZpx | staAby | staAbx | stxZp | stxAbs | stxZpy | styZp | styAbs | styZpx
  | stzZp | stzZpx | stzAbs | stzAbx =>
    exact withWrite_outside h rfl
  | incZp | incAbs | incZpx | incAbx | decZp | decAbs | decZpx | decAbx | tsbZp | tsbAbs | trbZp | trbAbs | aslZp | aslAbs | aslZpx
  | aslAbx | lsrZp | lsrAbs | lsrZpx | lsrAbx | rolZp | rolAbs | rolZpx | rolAbx | rorZp | rorAbs | rorZpx | rorAbx | rmb0 | rmb1
  | rmb2 | rmb3 | rmb4 | rmb5 | rmb6 | rmb7 | smb0 | smb1 | smb2 | smb3 | smb4 | smb5 | smb6 | smb7 =>
    exact withModify_outside h rfl
  | incAcc | decAcc | aslAcc | lsrAcc | rolAcc | rorAcc =>
    exact withModifyAcc_outside h rfl
  | tax | tay | txa | tya | tsx | txs | inx | iny | dex | dey | clc | sec | cli | sei | cld | sed | clv | wai | stp | jmpAbs
  | nop02 | nop22 | nop42 | nop62 | nop82 | nopC2 | nopE2 | nop44 | nop54 | nopD4 | nopF4 | nop5C | nopDC | nopFC | nop03 | nop0B
  | nop13 | nop1B | nop23 | nop2B | nop33 | nop3B | nop43 | nop4B | nop53 | nop5B | nop63 | nop6B | nop73 | nop7B | nop83 | nop8B
  | nop93 | nop9B | nopA3 | nopAB | nopB3 | nopBB | nopC3 | nopD3 | nopE3 | nopEB | nopF3 | nopFB | nop =>
    exact withNone_outside h rfl rfl
  | php | pha | phx | phy =>
    exact withPush_outside h rfl rfl
  | pla | plx | ply | plp =>
    exact withPull_outside h (fun _ _ => rfl) rfl
  | jmpInd | jmpIax =>
    exact jumpThrough_outside h rfl rfl
  | bpl | bmi | bvc | bvs | bcc | bcs | bne | beq =>
    exact .quiet rfl (Outcome.next.inj h ▸ branchIf_same _ _ _ _)
  | bra =>
    exact .quiet rfl (Outcome.next.inj h ▸ rfl)
  | bbr0 | bbr1 | bbr2 | bbr3 | bbr4 | bbr5 | bbr6 | bbr7 | bbs0 | bbs1 | bbs2 | bbs3 | bbs4 | bbs5 | bbs6 | bbs7 =>
    exact branchOnBit_outside h rfl
  | jsr =>
    exact execJsr_outside h
  | rts =>
    exact execRts_outside h
  | rti =>
    exact execRti_outside h
  | brk =>
    exact execBrk_outside h

/-! The invariant. -/

/-- Every instruction keeps the invariant. -/
theorem exec_inv {i : Instr} {s t : State} (hs : s.Inv) (h : exec i s = .next t) : t.Inv := by
  cases exec_outside h with
  | load _ _ reads rest => exact rest.inv (reads.inv hs)
  | store _ _ reads write rest => exact rest.inv (write_inv (reads.inv hs) write)
  | push _ _ rest => exact rest.inv (pushed_inv hs _)

theorem fetchByte_inv {s t : State} {v : Byte} (hs : s.Inv) (h : fetchByte s = .ok v t) : t.Inv := by
  obtain ⟨w, s1, hr, h⟩ := Res.bind_eq_ok h
  cases h
  exact SameButProcessor.inv rfl (read_inv hs hr)

/-- Fetching an instruction's bytes keeps the invariant. -/
theorem fetch_inv {s t : State} {i : Instr} (hs : s.Inv) (h : fetch s = .ok i t) : t.Inv := by
  obtain ⟨op, s1, h1, h⟩ := Res.bind_eq_ok h
  have hi := fetchByte_inv hs h1
  split at h
  · cases h
    exact hi
  · obtain ⟨b1, s2, h2, h⟩ := Res.bind_eq_ok h
    cases h
    exact fetchByte_inv hi h2
  all_goals
    obtain ⟨b1, s2, h2, h⟩ := Res.bind_eq_ok h
    obtain ⟨b2, s3, h3, h⟩ := Res.bind_eq_ok h
    cases h
    exact fetchByte_inv (fetchByte_inv hi h2) h3

theorem runInstruction_inv {s t : State} (hs : s.Inv) (h : runInstruction s = .next t) : t.Inv := by
  unfold runInstruction at h
  split at h
  · rename_i hf
    exact exec_inv (fetch_inv hs hf) h
  · cases h

/-- Settles O59: an instruction runs, a cycle is counted, or nothing happens. -/
theorem stepKeepsInvariant : Obligations.StepKeepsInvariant := by
  intro s t hs h
  unfold step at h
  split at h
  case h_1 | h_2 => exact runInstruction_inv hs h
  case h_3 =>
    cases h
    exact SameButProcessor.inv rfl hs
  case h_4 =>
    cases h
    exact hs

/-! The host calls. -/

theorem resetCall_inv {s t : State} (hs : s.Inv) (h : resetCall s = .next t) : t.Inv := by
  obtain ⟨w, s2, hr, h⟩ := Res.bind_eq_ok (Res.outcome_eq_next h)
  rw [read16_quiet (by decide) (by decide)] at hr
  cases hr
  cases h
  exact SameButProcessor.inv (s := s) rfl hs

theorem interruptEntry_inv {vector : Word} {s t : State} (h1 : quiet vector = true) (h2 : quiet (vector + 1) = true) (hs : s.Inv)
    (h : interruptEntry vector s = .next t) : t.Inv := by
  obtain ⟨u, s1, he, h⟩ := Res.bind_eq_ok (Res.outcome_eq_next h)
  obtain ⟨vs, -, hsame⟩ := enterHandler_pushed h1 h2 he
  cases h
  exact SameButProcessor.inv (hsame.trans rfl) (pushed_inv hs vs)

theorem irqCall_inv {s t : State} (hs : s.Inv) (h : irqCall s = .next t) : t.Inv := by
  unfold irqCall at h
  split at h
  · cases h
    exact hs
  · split at h
    · cases h
      exact hs
    · exact interruptEntry_inv (by decide) (by decide) hs h

theorem nmiCall_inv {s t : State} (hs : s.Inv) (h : nmiCall s = .next t) : t.Inv := by
  unfold nmiCall at h
  split at h
  · cases h
    exact hs
  · exact interruptEntry_inv (by decide) (by decide) hs h

/-- The loop of `execute` keeps the invariant, whatever its fuel and target. -/
theorem executeLoop_inv {fuel target : Nat} {s t : State} (hs : s.Inv) (h : executeLoop fuel target s = .next t) : t.Inv := by
  induction fuel generalizing s with
  | zero =>
    cases h
    exact hs
  | succ fuel ih =>
    unfold executeLoop at h
    split at h
    · split at h
      · cases h
        exact hs
      · cases h
        exact SameButProcessor.inv rfl hs
      all_goals
        split at h
        · rename_i hr
          exact ih (runInstruction_inv hs hr) h
        · rename_i hr
          exact absurd h (hr t)
    · cases h
      exact hs

theorem executeCall_inv {n : Nat} {s t : State} (hs : s.Inv) (h : executeCall n s = .next t) : t.Inv := by
  unfold executeCall at h
  split at h
  · cases h
    exact hs
  · exact executeLoop_inv hs h

/-- Replacing a drive by one that keeps its invariant keeps the machine's. -/
theorem setDrive_inv {s : State} (hs : s.Inv) (n : DriveId) {d : Drive} (hd : d.Inv) : { s with disk := s.disk.setDrive n d }.Inv :=
  hs.of_same rfl (hs.disk.setDrive n hd)

theorem setReadonly_inv {s : State} (hs : s.Inv) (n : DriveId) (on : Bool) : (setReadonly n on s).Inv := by
  obtain ⟨hht, htr, hnib, hdata⟩ := hs.disk.drive n
  exact setDrive_inv hs n ⟨hht, htr, hnib, hdata⟩

theorem loadImage_inv {s : State} (hs : s.Inv) (n : DriveId) (file : Option (List Byte)) : (loadImage n file s).Inv := by
  unfold loadImage
  split
  · split
    · rename_i bytes hl
      obtain ⟨hht, htr, hnib, -⟩ := hs.disk.drive n
      exact setDrive_inv hs n ⟨hht, htr, hnib, Memory.ofBytes_fits bytes _ (Nat.le_of_eq hl)⟩
    · exact hs
  · exact hs

/-- Settles O60, call by call. -/
theorem hostCallsKeepInvariant : Obligations.HostCallsKeepInvariant := by
  intro c s t hs hu h
  cases c with
  | reset => exact resetCall_inv hs h
  | irq => exact irqCall_inv hs h
  | nmi => exact nmiCall_inv hs h
  | execute n => exact executeCall_inv hs h
  | pressKey key =>
    cases h
    exact hs.of_same rfl hs.disk
  | setReadonly d on =>
    cases h
    exact setReadonly_inv hs d on
  | setSingleStep on =>
    cases h
    exact setSingleStep_inv hs on
  | loadImage d file =>
    cases h
    exact loadImage_inv hs d file
  | saveImage d | readState =>
    cases h
    exact hs
  | writeState u =>
    cases h
    exact writeState_inv (hu u rfl) s

/-! The frame of memory. -/

theorem storedCells_of_store {i : Instr} {m : MemMode} {s : State} {b : Bank} (hm : storeMode i = some m)
    (hb : sink s.sw (effAddr m s) = .ram b) : storedCells i s = [(b, b.index (effAddr m s))] := by
  simp only [storedCells, hm, hb]

theorem storedCells_of_push {i : Instr} (s : State) (hm : storeMode i = none) :
    storedCells i s = pushCells (zeroBank s.sw) (pushes i) s.sp := by
  simp only [storedCells, hm, pushCells]

/-- A write leaves every cell alone but the one that takes it. -/
theorem write_byteAt {a : Word} {v : Byte} {s t : State} {b : Bank} {k : Nat} (h : write a v s = .ok () t)
    (hk : ∀ b', sink s.sw a = .ram b' → (b, k) ≠ (b', b'.index a)) : t.ram.byteAt b k = s.ram.byteAt b k := by
  obtain ⟨b', hb', rfl⟩ | ⟨-, hs⟩ := write_cases h
  · refine Ram.byteAt_store_other _ v ?_
    by_cases hb : b = b'
    · exact .inr fun he => hk b' hb' (by rw [hb, he])
    · exact .inl hb
  · rw [hs.ram_eq]

/-- A write leaves the ROMs alone (R83, R87). -/
theorem write_roms {a : Word} {v : Byte} {s t : State} (h : write a v s = .ok () t) :
    t.rom = s.rom ∧ t.slotRom = s.slotRom ∧ t.expRom = s.expRom := by
  obtain ⟨b, -, rfl⟩ | ⟨-, hs⟩ := write_cases h
  · exact ⟨rfl, rfl, rfl⟩
  · exact ⟨hs.rom_eq, hs.slotRom_eq, hs.expRom_eq⟩

/-- Reads at an address cannot change which array takes a write to it. -/
theorem Reads.sink_eq {as : List Word} {a : Word} {s t : State} (h : Reads as s t) (ha : as ⊆ [a]) : sink t.sw a = sink s.sw a := by
  induction as generalizing s with
  | nil => rw [show t = s from h]
  | cons a' as ih =>
    obtain ⟨v, s1, hr, h⟩ := h
    obtain ⟨ha', has⟩ := List.cons_subset.mp ha
    rw [ih h has]
    exact List.mem_singleton.mp ha' ▸ sink_of_read hr

/-- Settles O39: reads change no array, a write and a push only the cells they store to. -/
theorem frameCells : Obligations.FrameCells := by
  intro i s t h
  cases exec_outside h with
  | load mode addrs reads rest =>
    have hs := reads.same
    exact ⟨fun b k _ => by rw [rest.ram_eq, hs.ram_eq], by rw [rest.rom_eq, hs.rom_eq], by rw [rest.slotRom_eq, hs.slotRom_eq],
      by rw [rest.expRom_eq, hs.expRom_eq]⟩
  | store mode addrs reads write rest =>
    have hs := reads.same
    obtain ⟨hrom, hslot, hexp⟩ := write_roms write
    refine ⟨fun b k hk => ?_, by rw [rest.rom_eq, hrom, hs.rom_eq], by rw [rest.slotRom_eq, hslot, hs.slotRom_eq],
      by rw [rest.expRom_eq, hexp, hs.expRom_eq]⟩
    rw [rest.ram_eq, ← hs.ram_eq]
    refine write_byteAt write fun b' hb' => ?_
    rw [reads.sink_eq addrs] at hb'
    rw [storedCells_of_store mode hb'] at hk
    exact fun he => hk (List.mem_singleton.mpr he)
  | push mode count rest =>
    refine ⟨fun b k hk => ?_, rest.rom_eq, rest.slotRom_eq, rest.expRom_eq⟩
    rw [storedCells_of_push s mode, ← count] at hk
    rw [rest.ram_eq]
    exact byteAt_pushBytes hk

/-- The first address of a writable array (R35, R78). -/
def Bank.base (b : Bank) : Nat :=
  match b with
  | .main | .aux => 0
  | .lcMainB1 | .lcMainB2 | .lcAuxB1 | .lcAuxB2 => 0xD000
  | .lcMainHi | .lcAuxHi => 0xE000

theorem ramBank_base (sw : Switches) (a : Word) (w : Bool) : (ramBank sw a w).base + (ramBank sw a w).index a = a.toNat := by
  have hbase : (ramBank sw a w).base = 0 := by
    unfold ramBank
    dsimp only
    repeat' split
    all_goals rfl
  rw [hbase, index_ramBank, Nat.zero_add]

theorem lcBank_base {sw : Switches} {a : Word} (h : 0xD000 ≤ a.toNat) : (lcBank sw a).base + (lcBank sw a).index a = a.toNat := by
  have ha := a.isLt
  unfold lcBank
  repeat' split
  all_goals
    simp only [Bank.base, Bank.index]
    omega

/-- The address read from an array is its first address and the index. -/
theorem source_base {sw : Switches} {a : Word} {b : Bank} (h : source sw a = .ram b) : b.base + b.index a = a.toNat := by
  unfold source at h
  dsimp only at h
  repeat' split at h
  all_goals cases h
  · exact ramBank_base sw a false
  · exact lcBank_base (by omega)

/-- The same for the address written. -/
theorem sink_base {sw : Switches} {a : Word} {b : Bank} (h : sink sw a = .ram b) : b.base + b.index a = a.toNat := by
  unfold sink at h
  dsimp only at h
  repeat' split at h
  all_goals cases h
  · exact ramBank_base sw a true
  · exact lcBank_base (by omega)

/-- A cell the instruction stores to is read at the effective address of its store or at a pushed byte's address. -/
theorem addr_of_storedCell {i : Instr} {s : State} {a : Word} {b : Bank} (ha : source s.sw a = .ram b)
    (h : (b, b.index a) ∈ storedCells i s) :
    (∃ m, storeMode i = some m ∧ a = effAddr m s) ∨
      ∃ k, k < pushes i ∧ a = BitVec.ofNat 16 (0x100 + (s.sp - BitVec.ofNat 8 k).toNat) := by
  have hbase := source_base ha
  cases hm : storeMode i with
  | some m =>
    refine .inl ⟨m, rfl, ?_⟩
    cases hb : sink s.sw (effAddr m s) with
    | ram b' =>
      rw [storedCells_of_store hm hb, List.mem_singleton] at h
      obtain ⟨rfl, hidx⟩ := Prod.mk.inj h
      exact BitVec.eq_of_toNat_eq (by rw [← hbase, hidx, sink_base hb])
    | _ => simp [storedCells, hm, hb] at h
  | none =>
    rw [storedCells_of_push s hm, pushCells, List.mem_map] at h
    obtain ⟨k, hk, he⟩ := h
    obtain ⟨rfl, hidx⟩ := Prod.mk.inj he
    refine .inr ⟨k, List.mem_range.mp hk, ?_⟩
    have hz : (zeroBank s.sw).base = 0 := by
      unfold zeroBank
      split <;> rfl
    rw [hz, Nat.zero_add, ← hidx] at hbase
    rw [hbase, BitVec.ofNat_toNat, BitVec.setWidth_eq]

/-- A write to a quiet address changes no switch (R65). -/
theorem write_quiet_sw {a : Word} {v : Byte} {s t : State} (hq : quiet a = true) (h : write a v s = .ok () t) : t.sw = s.sw := by
  unfold write at h
  split at h
  · rename_i hsink
    have hr := range_of_sink hsink
    simp only [quiet, Bool.and_eq_true, Bool.or_eq_true, decide_eq_true_eq] at hq
    omega
  · cases h
    rfl
  · cases h
    exact expansionOff_sw a s

/-- Where an instruction's accesses are quiet, it changes no switch (R65). -/
theorem exec_quiet_sw {i : Instr} {s t : State} (h : exec i s = .next t) (hq : ∀ a ∈ accessAddrs i s, quiet a = true) : t.sw = s.sw := by
  cases exec_outside h with
  | load mode addrs reads rest => rw [rest.sw_eq, reads.eq_of_quiet fun a ha => hq a (addrs ha)]
  | store mode addrs reads write rest =>
    rw [accessAddrs_of_store mode] at hq
    rw [rest.sw_eq, write_quiet_sw (hq _ List.mem_cons_self) write, reads.eq_of_quiet fun a ha => hq a (addrs ha)]
  | push mode count rest => exact rest.sw_eq

/-- The byte read at a backed address is the same in two states with the same switches, the same ROMs and the same cell behind it. -/
theorem peek_congr {a : Word} {s t : State} (hb : backed a s = true) (hsw : t.sw = s.sw)
    (hram : ∀ b, source s.sw a = .ram b → t.ram.byteAt b (b.index a) = s.ram.byteAt b (b.index a))
    (hrom : t.rom = s.rom) (hslot : t.slotRom = s.slotRom) (hexp : t.expRom = s.expRom) : peek a t = peek a s := by
  unfold backed at hb
  unfold peek
  rw [hsw, hrom, hslot, hexp]
  cases hsrc : source s.sw a with
  | ram b => exact hram b hsrc
  | rom => rfl
  | slot n =>
    rw [hsrc] at hb
    obtain ⟨m, hm⟩ := Option.isSome_iff_exists.mp hb
    simp only [hm, romByte]
  | expansion =>
    rw [hsrc] at hb
    obtain ⟨m, hm⟩ := Option.isSome_iff_exists.mp hb
    simp only [hm, romByte]
  | switch =>
    rw [hsrc] at hb
    cases hb

/-- Settles O40: the cell behind an address is none the instruction stores to, unless the address is a store's or a pushed byte's. -/
theorem frameMemory : Obligations.FrameMemory := by
  intro i s t h hq a hb hstore hpush
  obtain ⟨hram, hrom, hslot, hexp⟩ := frameCells i s t h
  refine peek_congr hb (exec_quiet_sw h hq) (fun b hsrc => hram b _ fun hmem => ?_) hrom hslot hexp
  obtain ⟨m, hm, ha⟩ | ⟨k, hk, ha⟩ := addr_of_storedCell hsrc hmem
  · exact hstore m hm ha
  · exact hpush k hk ha

end Sys2Proof.Machine
end

section
/-! One access in the window of the soft switches, entry by entry of the table (R90, R118). -/

namespace Sys2Proof.Machine

open Sys2Proof.Claims

/-- The floating bus is the low byte of the cycle counter (R92). -/
theorem floatingBus_eq (s : State) : floatingBus s = floating s := by
  rw [floatingBus, floating, BitVec.ofNat_toNat]

theorem statusByte_eq (on : Bool) : statusByte on = flagByte on := rfl

/-- An address of 0xC000 to 0xC0FF and the entry of the table it stands in. -/
abbrev IsEntry (a : Word) (e : SwitchEntry) : Prop := (0xC000 ≤ a.toNat ∧ a.toNat < 0xC100) ∧ switchEntry a = e

theorem source_switch {sw : Switches} {a : Word} (h : 0xC000 ≤ a.toNat ∧ a.toNat < 0xC100) : source sw a = .switch := by
  simp only [source]
  rw [if_neg (by omega), if_pos h.2]

theorem read_switch {a : Word} {s : State} (h : 0xC000 ≤ a.toNat ∧ a.toNat < 0xC100) : read a s = switchRead a s := by
  simp only [read, source_switch h]

theorem write_switch {a : Word} {v : Byte} {s : State} (h : 0xC000 ≤ a.toNat ∧ a.toNat < 0xC100) :
    write a v s = switchWrite a v s := by
  simp only [write, sink_switch h]

section
variable {a : Word} {k : Nat} {on : Bool} {v : Byte} {s : State}

theorem read_flagPair (h : IsEntry a (.flagPair k on)) : read a s = .ok s.kbd s := by
  simp only [read_switch h.1, switchRead, h.2]

theorem write_flagPair (h : IsEntry a (.flagPair k on)) : write a v s = .ok () { s with sw := setPairFlag k on s.sw } := by
  simp only [write_switch h.1, switchWrite, h.2]

theorem read_strobe (h : IsEntry a .strobe) : read a s = .ok (s.kbd &&& 0x7F) { s with kbd := s.kbd &&& 0x7F } := by
  simp only [read_switch h.1, switchRead, h.2]

theorem write_strobe (h : IsEntry a .strobe) : write a v s = .ok () s := by
  simp only [write_switch h.1, switchWrite, h.2]

theorem read_status (h : IsEntry a (.status k)) (hk : k ≠ 9) : read a s = .ok (flagByte (statusFlag k s.sw)) s := by
  simp only [read_switch h.1, switchRead, h.2, if_neg hk, statusByte_eq]

theorem read_vblank (h : IsEntry a (.status 9)) :
    read a s = .ok (flagByte (Config.vblankDraw s.draws)) { s with draws := s.draws + 1 } := by
  simp only [read_switch h.1, switchRead, h.2, if_pos, readVblank, statusByte_eq]

theorem write_status (h : IsEntry a (.status k)) : write a v s = .ok () s := by
  simp only [write_switch h.1, switchWrite, h.2]

theorem read_input (h : IsEntry a .input) : read a s = .ok (Config.inputDraw s.draws a) { s with draws := s.draws + 1 } := by
  simp only [read_switch h.1, switchRead, h.2, readInput]

theorem write_input (h : IsEntry a .input) : write a v s = .ok () s := by
  simp only [write_switch h.1, switchWrite, h.2]

theorem read_ioudisSet (h : IsEntry a .ioudisSet) : read a s = .ok (flagByte s.sw.ioudis) s := by
  simp only [read_switch h.1, switchRead, h.2, statusByte_eq]

theorem write_ioudisSet (h : IsEntry a .ioudisSet) : write a v s = .ok () { s with sw := { s.sw with ioudis := true } } := by
  simp only [write_switch h.1, switchWrite, h.2]

theorem read_ioudisClear (h : IsEntry a .ioudisClear) : read a s = .ok (flagByte s.sw.dhires) s := by
  simp only [read_switch h.1, switchRead, h.2, statusByte_eq]

theorem write_ioudisClear (h : IsEntry a .ioudisClear) : write a v s = .ok () { s with sw := { s.sw with ioudis := false } } := by
  simp only [write_switch h.1, switchWrite, h.2]

theorem read_languageCard (h : IsEntry a (.languageCard k)) :
    read a s = .ok (floating s) { s with sw := languageCardAccess k true s.sw } := by
  simp only [read_switch h.1, switchRead, h.2, floatingBus_eq]

theorem write_languageCard (h : IsEntry a (.languageCard k)) :
    write a v s = .ok () { s with sw := languageCardAccess k false s.sw } := by
  simp only [write_switch h.1, switchWrite, h.2]

/-- A disk access that answers changes the controller only (R467). -/
theorem read_disk {w : Byte} {t : State} (h : IsEntry a (.disk k)) (hr : read a s = .ok w t) : t = { s with disk := t.disk } := by
  simp only [read_switch h.1, switchRead, h.2] at hr
  split at hr <;> cases hr
  rfl

/-- The same for a write. -/
theorem write_disk {t : State} (h : IsEntry a (.disk k)) (hw : write a v s = .ok () t) : t = { s with disk := t.disk } := by
  simp only [write_switch h.1, switchWrite, h.2] at hw
  split at hw <;> cases hw
  rfl

/-- A read and a write of the address have one effect, and the read gives the floating bus (R92). -/
def Touches (a : Word) (v : Byte) (s t : State) : Prop := read a s = .ok (floating s) t ∧ write a v s = .ok () t

theorem touches_display (h : IsEntry a (.display k on)) :
    Touches a v s { s with sw := setDisplayFlag k on s.sw, events := .displayInvalidate a :: s.events } := by
  simp only [Touches, read_switch h.1, write_switch h.1, switchRead, switchWrite, switchTouch, h.2, floatingBus_eq, State.emit, and_self]

theorem touches_annunciator (h : IsEntry a (.annunciator k on)) : Touches a v s { s with sw := setAnnunciator k on s.sw } := by
  simp only [Touches, read_switch h.1, write_switch h.1, switchRead, switchWrite, switchTouch, h.2, floatingBus_eq, and_self]

theorem touches_paddleReset (h : IsEntry a .paddleReset) : Touches a v s { s with events := .paddleReset :: s.events } := by
  simp only [Touches, read_switch h.1, write_switch h.1, switchRead, switchWrite, switchTouch, h.2, floatingBus_eq, State.emit, and_self]

theorem touches_audio (h : IsEntry a .audio) : Touches a v s { s with events := .audioToggle a :: s.events } := by
  simp only [Touches, read_switch h.1, write_switch h.1, switchRead, switchWrite, switchTouch, h.2, floatingBus_eq, State.emit, and_self]

theorem touches_unlisted (h : IsEntry a .unlisted) : Touches a v s s := by
  simp only [Touches, read_switch h.1, write_switch h.1, switchRead, switchWrite, switchTouch, h.2, floatingBus_eq, and_self]

end

/-! Which addresses stand in which entry (R93 to R116). -/

/-- The address of a pair that sets its flag, or the one that clears it (R93, R101, R105). -/
def pairAddr (base : Word) (on : Bool) : Word := if on then base + 1 else base

theorem entry_flagPair : ∀ (k : Fin 8) (on : Bool), IsEntry (pairAddr (0xC000 + BitVec.ofNat 16 (2 * k)) on) (.flagPair k on) := by
  decide

theorem entry_display : ∀ (k : Fin 4) (on : Bool), IsEntry (pairAddr (0xC050 + BitVec.ofNat 16 (2 * k)) on) (.display k on) := by
  decide

theorem entry_annunciator :
    ∀ (k : Fin 4) (on : Bool), IsEntry (pairAddr (0xC058 + BitVec.ofNat 16 (2 * k)) on) (.annunciator k on) := by
  decide

theorem entry_keyboard : ∀ k < 16, IsEntry (BitVec.ofNat 16 (0xC000 + k)) (.flagPair (k / 2) (k % 2 == 1)) := by decide

theorem entry_status : ∀ k < 16, 1 ≤ k → IsEntry (BitVec.ofNat 16 (0xC010 + k)) (.status k) := by decide

theorem entry_languageCard : ∀ k : BitVec 4, IsEntry (0xC080 + k.setWidth 16) (.languageCard k.toNat) := by decide

theorem entry_disk : ∀ off < 16, IsEntry (BitVec.ofNat 16 (0xC0E0 + off)) (.disk off) := by decide

theorem entry_input : ∀ a ∈ Config.inputReadAddrs, IsEntry a .input := by
  intro a ha
  simp only [Config.inputReadAddrs, List.mem_cons, List.not_mem_nil, or_false] at ha
  rcases ha with rfl | rfl | rfl | rfl <;> decide

theorem entry_audio {a : Word} (h : a ∈ Config.audioToggleAddrs) : IsEntry a .audio :=
  ⟨(unlisted_facts a (unlisted_of_audio h)).1, switchEntry_audio h⟩

theorem entry_unlisted {a : Word} (h : a ∈ Config.unlistedAddrs) (ha : a ∉ Config.audioToggleAddrs) : IsEntry a .unlisted :=
  ⟨(unlisted_facts a h).1, by rw [switchEntry_unlisted h, isAudioToggle, decide_eq_false ha]; rfl⟩

end Sys2Proof.Machine
end

section
/-! An instruction whose accesses are quiet touches no device (O41). -/

namespace Sys2Proof.Machine

open Sys2Proof.Claims

/-- A write to a quiet address changes the writable arrays only (R65, R87). -/
theorem write_quiet {a : Word} {v : Byte} {s t : State} (hq : quiet a = true) (h : write a v s = .ok () t) :
    t = { s with ram := t.ram } := by
  simp only [quiet, Bool.and_eq_true, Bool.or_eq_true, decide_eq_true_eq, bne_iff_ne, ne_eq] at hq
  obtain ⟨hrange, hne⟩ := hq
  unfold write at h
  split at h
  · rename_i hsink
    have hr := range_of_sink hsink
    omega
  · cases h
    rfl
  · cases h
    rw [expansionOff, if_neg hne]

/-- No switch, no keyboard latch, no drive, no draw and no event differs. -/
def SameDevices (s t : State) : Prop :=
  t.sw = s.sw ∧ t.kbd = s.kbd ∧ t.disk = s.disk ∧ t.draws = s.draws ∧ t.events = s.events

theorem SameButProcessor.devices {s t : State} (h : SameButProcessor s t) : SameDevices s t := by
  rw [h]
  exact ⟨rfl, rfl, rfl, rfl, rfl⟩

theorem write_quiet_devices {a : Word} {v : Byte} {s t : State} (hq : quiet a = true) (h : write a v s = .ok () t) :
    SameDevices s t := by
  rw [write_quiet hq h]
  exact ⟨rfl, rfl, rfl, rfl, rfl⟩

theorem SameDevices.trans {s t u : State} (h : SameDevices s t) (h' : SameDevices t u) : SameDevices s u := by
  obtain ⟨hsw, hkbd, hdisk, hdraws, hevents⟩ := h
  obtain ⟨hsw', hkbd', hdisk', hdraws', hevents'⟩ := h'
  exact ⟨hsw'.trans hsw, hkbd'.trans hkbd, hdisk'.trans hdisk, hdraws'.trans hdraws, hevents'.trans hevents⟩

/-- Settles O41: quiet reads change nothing, a quiet write and pushes the writable arrays only, and the rest is the processor. -/
theorem frameDevices : Obligations.FrameDevices := by
  intro i s t h hq
  cases exec_outside h with
  | load mode addrs reads rest => exact reads.eq_of_quiet (fun a ha => hq a (addrs ha)) ▸ rest.devices
  | store mode addrs reads write rest =>
    rw [accessAddrs_of_store mode] at hq
    have hw := write_quiet_devices (hq _ List.mem_cons_self) write
    exact (reads.eq_of_quiet (fun a ha => hq a (addrs ha)) ▸ hw).trans rest.devices
  | push mode count rest => exact SameDevices.trans ⟨rfl, rfl, rfl, rfl, rfl⟩ rest.devices

end Sys2Proof.Machine
end

section
/-! Which array serves an access outside the window of the soft switches (O42 to O45). -/

namespace Sys2Proof.Machine

open Sys2Proof.Claims

/-! Below 0xC000 (R69 to R76). -/

section
variable {sw : Switches} {a : Word}

theorem ramBank_text (h : 0x0400 ≤ a.toNat ∧ a.toNat < 0x0800 ∧ sw.store80 = true) (w : Bool) :
    ramBank sw a w = ramArray sw.page2 := by
  simp only [ramBank, if_neg (show ¬ a.toNat < 0x0200 by omega), if_pos h, ramArray]

theorem ramBank_hires (h : 0x2000 ≤ a.toNat ∧ a.toNat < 0x4000 ∧ sw.store80 = true ∧ sw.hires = true) (w : Bool) :
    ramBank sw a w = ramArray sw.page2 := by
  have htext : ¬ (0x0400 ≤ a.toNat ∧ a.toNat < 0x0800 ∧ sw.store80 = true) := by omega
  simp only [ramBank, if_neg (show ¬ a.toNat < 0x0200 by omega), if_neg htext, if_pos h, ramArray]

theorem ramBank_direction (h : 0x0200 ≤ a.toNat) (ht : ¬ (0x0400 ≤ a.toNat ∧ a.toNat < 0x0800 ∧ sw.store80 = true))
    (hh : ¬ (0x2000 ≤ a.toNat ∧ a.toNat < 0x4000 ∧ sw.store80 = true ∧ sw.hires = true)) (w : Bool) :
    ramBank sw a w = ramArray (if w then sw.ramwrt else sw.ramrd) := by
  simp only [ramBank, if_neg (Nat.not_lt.mpr h), if_neg ht, if_neg hh, ramArray]

end

/-- Settles O42: the array by the range of the address and the switches. -/
theorem ramBanks : Obligations.RamBanks := by
  intro a v s ha
  have served : ∀ {r w : Bool}, ramBank s.sw a false = ramArray r → ramBank s.sw a true = ramArray w →
      read a s = .ok (s.ram.byteAt (ramArray r) a.toNat) s ∧
        write a v s = .ok () { s with ram := s.ram.store (ramArray w) a.toNat v } := by
    intro r w hr hw
    exact ⟨hr ▸ read_low ha, hw ▸ write_low ha⟩
  refine ⟨fun h => ?_, fun h => ?_, fun h => ?_, fun h ht hh => ?_⟩
  · exact served (ramBank_page01 h false) (ramBank_page01 h true)
  · exact served (ramBank_text h false) (ramBank_text h true)
  · exact served (ramBank_hires h false) (ramBank_hires h true)
  · exact served (ramBank_direction h ht hh false) (ramBank_direction h ht hh true)

/-! From 0xD000 on (R78 to R83). -/

section
variable {sw : Switches} {a : Word}

theorem source_high (h : 0xD000 ≤ a.toNat) : source sw a = if sw.lcread then .ram (lcBank sw a) else .rom := by
  simp only [source]
  rw [if_neg (by omega), if_neg (by omega), if_neg (by omega), if_neg (by omega)]

theorem sink_high (h : 0xD000 ≤ a.toNat) : sink sw a = if sw.lcwrite then .ram (lcBank sw a) else .discard := by
  simp only [sink]
  rw [if_neg (by omega), if_neg (by omega), if_neg (by omega)]

theorem lcCell_eq (h : 0xD000 ≤ a.toNat) : lcCell sw a = (lcBank sw a, (lcBank sw a).index a) := by
  have ha := a.isLt
  have hlo : a.toNat < 0xE000 → a.toNat - 0xD000 = a.toNat % 0x1000 := by omega
  have hhi : ¬ a.toNat < 0xE000 → a.toNat - 0xE000 = a.toNat % 0x2000 := by omega
  unfold lcCell lcBank
  split
  case isTrue hl => cases sw.altzp <;> cases sw.lcbank2 <;> simp only [hlo hl] <;> rfl
  case isFalse hl => cases sw.altzp <;> simp only [hhi hl] <;> rfl

end

section
variable {a : Word} {s : State}

/-- An access to any address but 0xCFFF stops no motor (R88). -/
theorem expansionOff_of_ne (h : a.toNat ≠ 0xCFFF) : expansionOff a s = s := if_neg fun e => h (by rw [e]; rfl)

/-- A write that no array and no soft switch takes can only stop a motor (R87, R88). -/
theorem write_discard {v : Byte} (h : sink s.sw a = .discard) : write a v s = .ok () (expansionOff a s) := by
  simp only [write, h]

theorem write_ram {v : Byte} {b : Bank} (h : sink s.sw a = .ram b) :
    write a v s = .ok () { s with ram := s.ram.store b (b.index a) v } := by
  simp only [write, h]

theorem peek_ram {b : Bank} (h : source s.sw a = .ram b) : peek a s = s.ram.byteAt b (b.index a) := by
  simp only [peek, h]

theorem peek_rom (h : source s.sw a = .rom) : peek a s = s.rom.byteAt (romIndex a) := by
  simp only [peek, h]

theorem peek_slot {n : Nat} (h : source s.sw a = .slot n) : peek a s = romByte (s.slotRom.slot n) (slotIndex a) s := by
  simp only [peek, h]

theorem peek_expansion (h : source s.sw a = .expansion) : peek a s = romByte s.expRom (expansionIndex a) s := by
  simp only [peek, h]

/-- The writable arrays serve no read of 0xC000 to 0xCFFF (R67, R68). -/
theorem range_of_source_ram {sw : Switches} {b : Bank} (h : source sw a = .ram b) : a.toNat < 0xC000 ∨ 0xD000 ≤ a.toNat := by
  unfold source at h
  dsimp only at h
  repeat' split at h
  all_goals cases h
  all_goals omega

/-- A read that a writable array serves gives its byte and has no side effect (R69, R78). -/
theorem read_ram {b : Bank} (h : source s.sw a = .ram b) : read a s = .ok (s.ram.byteAt b (b.index a)) s := by
  have ha := range_of_source_ram h
  rw [read_eq_peek (by omega), expansionOff_of_ne (by omega), peek_ram h]

end

/-- Settles O43: LCREAD selects what a read gives and LCWRITE whether the cell takes a write. -/
theorem languageCard : Obligations.LanguageCard := by
  intro a v s ha
  have hlt := a.isLt
  have hrom : romIndex a = a.toNat - 0xC000 := by rw [romIndex]; omega
  have hquiet : expansionOff a s = s := expansionOff_of_ne (by omega)
  rw [lcCell_eq ha, ← hrom]
  refine ⟨fun h => ?_, fun h => ?_, fun h => ?_, fun h => ?_⟩
  · exact read_ram (by rw [source_high ha, if_pos h])
  · rw [read_eq_peek (by omega), hquiet, peek_rom (by rw [source_high ha, h]; rfl)]
  · exact write_ram (by rw [sink_high ha, if_pos h])
  · rw [write_discard (by rw [sink_high ha, h]; rfl), hquiet]

/-! From 0xC100 to 0xCFFF (R84 to R88). -/

section
variable {sw : Switches} {a : Word}

/-- Every write to the read-only ranges is discarded (R87). -/
theorem sink_peripheral (h : 0xC100 ≤ a.toNat ∧ a.toNat < 0xD000) : sink sw a = .discard := by
  simp only [sink]
  rw [if_neg (by omega), if_neg (by omega), if_pos h.2]

theorem source_slot (h : 0xC100 ≤ a.toNat ∧ a.toNat < 0xC800) :
    source sw a = if sw.intcxrom || (a.toNat / 256 == 0xC3 && !sw.slotc3rom) then .rom else .slot (a.toNat / 256 % 16) := by
  simp only [source]
  rw [if_neg (by omega), if_neg (by omega), if_pos h.2]

theorem source_expansion (h : 0xC800 ≤ a.toNat ∧ a.toNat < 0xD000) :
    source sw a = if sw.intcxrom || !sw.slotc3rom then .rom else .expansion := by
  simp only [source]
  rw [if_neg (by omega), if_neg (by omega), if_neg (by omega), if_pos h.2]

end

section
variable {a : Word} {s : State}

theorem romByte_none (i : Nat) (s : State) : romByte none i s = floating s := floatingBus_eq s

/-- A write to the read-only ranges does nothing but stop a motor at 0xCFFF (R87, R88). -/
theorem write_peripheral {v : Byte} (h : 0xC100 ≤ a.toNat ∧ a.toNat < 0xD000) : write a v s = .ok () (expansionOff a s) :=
  write_discard (sink_peripheral h)

/-- The slot windows give the fixed ROM under INTCXROM, and slot 3's without SLOTC3ROM (R84, R85). -/
theorem read_slot_rom (h : 0xC100 ≤ a.toNat ∧ a.toNat < 0xC800)
    (hsel : s.sw.intcxrom = true ∨ (a.toNat / 256 = 0xC3 ∧ s.sw.slotc3rom = false)) :
    read a s = .ok (s.rom.byteAt (romIndex a)) s := by
  have hsource : source s.sw a = .rom := by
    rw [source_slot h, if_pos]
    rcases hsel with hint | ⟨hpage, hc3⟩
    · simp [hint]
    · simp [hpage, hc3]
  rw [read_eq_peek (.inr h.1), expansionOff_of_ne (by omega), peek_rom hsource]

/-- Else they give the slot's own ROM (R84, R85). -/
theorem read_slot (h : 0xC100 ≤ a.toNat ∧ a.toNat < 0xC800) (hint : s.sw.intcxrom = false)
    (hc3 : a.toNat / 256 = 0xC3 → s.sw.slotc3rom = true) :
    read a s = .ok (romByte (s.slotRom.slot (a.toNat / 256 % 16)) (slotIndex a) s) s := by
  have hsource : source s.sw a = .slot (a.toNat / 256 % 16) := by
    rw [source_slot h, if_neg]
    simpa [hint] using hc3
  rw [read_eq_peek (.inr h.1), expansionOff_of_ne (by omega), peek_slot hsource]

/-- The expansion window gives the fixed ROM under INTCXROM or without SLOTC3ROM (R86). -/
theorem read_expansion_rom (h : 0xC800 ≤ a.toNat ∧ a.toNat < 0xD000) (hsel : s.sw.intcxrom = true ∨ s.sw.slotc3rom = false) :
    read a s = .ok (s.rom.byteAt (romIndex a)) (expansionOff a s) := by
  have hsource : source s.sw a = .rom := by
    rw [source_expansion h, if_pos]
    simpa using hsel
  rw [read_eq_peek (by omega), peek_rom hsource]

/-- Else it gives the expansion ROM (R86). -/
theorem read_expansion (h : 0xC800 ≤ a.toNat ∧ a.toNat < 0xD000) (hint : s.sw.intcxrom = false) (hc3 : s.sw.slotc3rom = true) :
    read a s = .ok (romByte s.expRom (expansionIndex a) s) (expansionOff a s) := by
  have hsource : source s.sw a = .expansion := by
    rw [source_expansion h, if_neg]
    simp [hint, hc3]
  rw [read_eq_peek (by omega), peek_expansion hsource]

end

/-- Settles O44: the two windows by their switches, and the motor at 0xCFFF alone. -/
theorem peripheralRom : Obligations.PeripheralRom := by
  intro v s
  constructor
  · intro n off h1 h7 a
    have hoff := off.isLt
    have ha : a.toNat = 0xC000 + 0x100 * n + off.toNat := by
      rw [BitVec.toNat_ofNat]
      omega
    have hpage : a.toNat / 256 = 0xC0 + n := by omega
    have hslot : a.toNat / 256 % 16 = n := by omega
    have hrom : romIndex a = 0x100 * n + off.toNat := by rw [romIndex]; omega
    have hindex : slotIndex a = off.toNat := by rw [slotIndex]; omega
    refine ⟨?_, fun h => ?_, fun hint hc3 => ?_⟩
    · rw [write_peripheral (by omega), expansionOff_of_ne (by omega)]
    · rw [read_slot_rom (by omega) (h.imp_right fun h => ⟨by omega, h.2⟩), hrom]
    · rw [read_slot (by omega) hint fun h => hc3 (by omega), hslot, hindex]
      exact ⟨fun m hm => by rw [hm, romByte], fun hm => by rw [hm, romByte_none]⟩
  · intro off hoff a after
    have ha : a.toNat = 0xC800 + off := by
      rw [BitVec.toNat_ofNat]
      omega
    have hrom : romIndex a = 0x800 + off := by rw [romIndex]; omega
    have hindex : expansionIndex a = off := by rw [expansionIndex]; omega
    have hafter : expansionOff a s = after := by
      by_cases h : off = 0x7FF
      · subst h
        rfl
      · exact (expansionOff_of_ne (by omega)).trans (if_neg h).symm
    rw [← hafter, ← hrom, write_peripheral (by omega)]
    refine ⟨rfl, fun h => read_expansion_rom (by omega) h, fun hint hc3 => ?_⟩
    rw [read_expansion (by omega) hint hc3, hindex]
    exact ⟨fun m hm => by rw [hm, romByte], fun hm => by rw [hm, romByte_none]⟩

/-! What a write changes of what the addresses read as (R77, R120). -/

/-- Nothing an address reads as depends on a writable array but the cell that serves it. -/
theorem peek_withRam {a : Word} {s : State} {r : Ram}
    (h : ∀ b, source s.sw a = .ram b → r.byteAt b (b.index a) = s.ram.byteAt b (b.index a)) :
    peek a { s with ram := r } = peek a s := by
  unfold peek
  dsimp only
  cases hsrc : source s.sw a with
  | ram b => exact h b hsrc
  | _ => rfl

/-- Settles O45: two addresses never share a cell, since an array has one first address. -/
theorem readAfterWrite : Obligations.ReadAfterWrite := by
  intro a v b s hs hsink
  refine ⟨_, write_ram hsink, fun h => ?_, fun h => ?_, fun a' hne => ?_⟩
  · have hsame := Ram.byteAt_store_same s.ram b (b.index a) v (Memory.wf_of_fits (hs.ram_fits b))
    exact (read_ram (s := { s with ram := s.ram.store b (b.index a) v }) h).trans (by rw [hsame])
  · exact peek_withRam fun b' hb' => Ram.byteAt_store_other _ v (.inl fun e => h (e ▸ hb'))
  · refine peek_withRam fun b' hb' => Ram.byteAt_store_other _ v ?_
    by_cases hb : b' = b
    · subst hb
      have hbase := source_base hb'
      have hbase' := sink_base hsink
      exact .inr fun hidx => hne (BitVec.eq_of_toNat_eq (by omega))
    · exact .inl hb

end Sys2Proof.Machine
end

section
/-! What an access can change, and where it can stop: R60, R65, R430, R431 (O46). -/

namespace Sys2Proof.Machine

open Sys2Proof.Claims

/-- A read that does not answer is a shift past the image. -/
theorem read_answers (a : Word) (s : State) : (∃ w t, read a s = .ok w t) ∨ (a = 0xC0EC ∧ 35 ≤ s.disk.current.track) := by
  cases h : read a s with
  | ok w t => exact .inl ⟨w, t, rfl⟩
  | stop f =>
    obtain ⟨hsrc, hentry, htrack⟩ := read_stop h
    exact .inr ⟨shift_addr (range_of_source hsrc) hentry, htrack⟩

/-- The same for a write. -/
theorem write_answers (a : Word) (v : Byte) (s : State) :
    (∃ t, write a v s = .ok () t) ∨ (a = 0xC0EC ∧ 35 ≤ s.disk.current.track) := by
  cases h : write a v s with
  | ok w t => exact .inl ⟨t, rfl⟩
  | stop f =>
    obtain ⟨hsink, hentry, htrack⟩ := write_stop h
    exact .inr ⟨shift_addr (range_of_sink hsink) hentry, htrack⟩

theorem shift_offset {off : Nat} (h : off < 16) (ha : BitVec.ofNat 16 (0xC0E0 + off) = 0xC0EC) : off = 0xC := by
  have hn := congrArg BitVec.toNat ha
  rw [BitVec.toNat_ofNat] at hn
  change _ = 0xC0EC at hn
  omega

theorem write_keeps {a : Word} {v : Byte} {s t : State} (h : write a v s = .ok () t) :
    t = { s with ram := t.ram, sw := t.sw, kbd := t.kbd, disk := t.disk, draws := t.draws, events := t.events } := by
  obtain ⟨b, -, rfl⟩ | ⟨-, hs⟩ := write_cases h
  · rfl
  · rw [hs.ram_eq]
    exact hs

/-- Settles O46, clause by clause. -/
theorem accessKeeps : Obligations.AccessKeeps := by
  refine ⟨fun a v s t h => read_same h, fun a v s t h => write_keeps h, fun a s h => ⟨_, read_quiet h⟩, fun off s hoff => ?_,
    fun off v s hoff => ?_, read_answers, write_answers⟩
  · obtain ⟨w, t, hr⟩ | ⟨ha, htrack⟩ := read_answers (BitVec.ofNat 16 (0xC0E0 + off)) s
    · exact .inl ⟨w, t.disk, read_disk (entry_disk off hoff) hr ▸ hr⟩
    · exact .inr ⟨shift_offset hoff ha, htrack⟩
  · obtain ⟨t, hw⟩ | ⟨ha, htrack⟩ := write_answers (BitVec.ofNat 16 (0xC0E0 + off)) v s
    · exact .inl ⟨t.disk, write_disk (entry_disk off hoff) hw ▸ hw⟩
    · exact .inr ⟨shift_offset hoff ha, htrack⟩

end Sys2Proof.Machine
end

section
/-! The soft switches: the flag pairs, the language card's switches, the display, the inputs (O47 to O51). -/

namespace Sys2Proof.Machine

open Sys2Proof.Claims

/-- A write to the `k`-th pair (R93). -/
theorem write_pair (k : Fin 8) (on : Bool) (v : Byte) (s : State) :
    write (pairAddr (0xC000 + BitVec.ofNat 16 (2 * k)) on) v s = .ok () { s with sw := setPairFlag k on s.sw } :=
  write_flagPair (entry_flagPair k on)

/-- A read of the status address with the low digit `k` (R97, R98); 0xC019 reports no flag. -/
theorem read_statusFlag (k : Nat) (s : State) (hk : k < 16 ∧ 1 ≤ k ∧ k ≠ 9 := by decide) :
    read (BitVec.ofNat 16 (0xC010 + k)) s = .ok (flagByte (statusFlag k s.sw)) s :=
  read_status (entry_status k hk.1 hk.2.1) hk.2.2

/-- Settles O47, address by address. -/
theorem flagPairs : Obligations.FlagPairs := by
  intro v s
  refine ⟨fun on => ?_, fun k hk => read_flagPair (entry_keyboard k hk), fun k h1 h2 => ?_, ?_⟩
  · exact ⟨write_pair 0 on v s, write_pair 1 on v s, write_pair 2 on v s, write_pair 3 on v s, write_pair 4 on v s,
      write_pair 5 on v s, write_pair 6 on v s, write_pair 7 on v s⟩
  · obtain ⟨k, rfl⟩ := Nat.exists_eq_add_of_le (show 0x10 ≤ k by omega)
    rw [← Nat.add_assoc]
    exact write_status (entry_status k (by omega) (by omega))
  · exact ⟨read_statusFlag 1 s, read_statusFlag 2 s, read_statusFlag 3 s, read_statusFlag 4 s, read_statusFlag 5 s,
      read_statusFlag 6 s, read_statusFlag 7 s, read_statusFlag 8 s, read_statusFlag 0xA s, read_statusFlag 0xB s,
      read_statusFlag 0xC s, read_statusFlag 0xD s, read_statusFlag 0xE s, read_statusFlag 0xF s⟩

/-- The card's switches by the bits of the address (R110 to R112). -/
theorem languageCardAccess_eq (k : BitVec 4) (isRead : Bool) (sw : Switches) :
    languageCardAccess k.toNat isRead sw =
      { sw with
        lcbank2 := !k.getLsbD 3
        lcread := k.getLsbD 0 == k.getLsbD 1
        lcwrite := if k.getLsbD 0 then sw.lcwrite || sw.lcpre else false
        lcpre := k.getLsbD 0 && isRead } := by
  have hbits : ∀ k : BitVec 4, decide (k.toNat < 8) = !k.getLsbD 3 ∧
      decide (k.toNat % 4 = 0 ∨ k.toNat % 4 = 3) = (k.getLsbD 0 == k.getLsbD 1) ∧ (k.toNat % 2 == 1) = k.getLsbD 0 := by decide
  obtain ⟨hbank, hread, hodd⟩ := hbits k
  simp only [languageCardAccess, hbank, hread, hodd, Bool.if_false_right, Bool.decide_eq_true]

theorem read_card (k : BitVec 4) (s : State) :
    read (0xC080 + k.setWidth 16) s = .ok (floating s) { s with sw := languageCardAccess k.toNat true s.sw } :=
  read_languageCard (entry_languageCard k)

theorem write_card (k : BitVec 4) (v : Byte) (s : State) :
    write (0xC080 + k.setWidth 16) v s = .ok () { s with sw := languageCardAccess k.toNat false s.sw } :=
  write_languageCard (entry_languageCard k)

/-- Settles O48: a read and a write differ in LCPRE only. -/
theorem languageCardSwitches : Obligations.LanguageCardSwitches := by
  intro k v s
  have hread := read_card k s
  have hwrite := write_card k v s
  rw [languageCardAccess_eq, Bool.and_true] at hread
  rw [languageCardAccess_eq, Bool.and_false] at hwrite
  exact ⟨hread, hwrite⟩

/-! The two latches that make the card writable: LCPRE and LCWRITE (R111, R112, R115). -/

/-- LCPRE and LCWRITE are the same. -/
def SameWriteLatches (sw sw' : Switches) : Prop := sw'.lcpre = sw.lcpre ∧ sw'.lcwrite = sw.lcwrite

/-- Which branch a choice took, from what it gave. -/
theorem choice_eq_iff {α : Type} {p : Prop} [Decidable p] {x y z : α} : (if p then x else y) = z ↔ p ∧ x = z ∨ ¬p ∧ y = z := by
  by_cases hp : p
  · simp only [hp, if_true, true_and, not_true_eq_false, false_and, or_false]
  · simp only [hp, if_false, false_and, not_false_eq_true, true_and, false_or]

/-- Only the card's sixteen addresses stand in its entries (R118). -/
theorem card_range {a : Word} {k : Nat} (h : IsEntry a (.languageCard k)) : 0xC080 ≤ a.toNat ∧ a.toNat < 0xC090 := by
  obtain ⟨hwin, h⟩ := h
  have hn : (loByte a).toNat = a.toNat % 256 := BitVec.toNat_setWidth ..
  simp only [switchEntry, choice_eq_iff, reduceCtorEq, and_false, false_or, or_false] at h
  obtain ⟨-, -, -, -, -, -, -, -, -, hrange, -⟩ := h
  omega

theorem setPairFlag_latches (k : Nat) (on : Bool) (sw : Switches) : SameWriteLatches sw (setPairFlag k on sw) := by
  unfold setPairFlag
  split <;> exact ⟨rfl, rfl⟩

theorem setDisplayFlag_latches (k : Nat) (on : Bool) (sw : Switches) : SameWriteLatches sw (setDisplayFlag k on sw) := by
  unfold setDisplayFlag
  split <;> exact ⟨rfl, rfl⟩

theorem setAnnunciator_latches (k : Nat) (on : Bool) (sw : Switches) : SameWriteLatches sw (setAnnunciator k on sw) := by
  unfold setAnnunciator
  split
  · exact ⟨rfl, rfl⟩
  · split <;> exact ⟨rfl, rfl⟩

theorem switchTouch_latches (a : Word) (s : State) : SameWriteLatches s.sw (switchTouch a s).sw := by
  unfold switchTouch
  split
  · exact setDisplayFlag_latches _ _ _
  · exact setAnnunciator_latches _ _ _
  all_goals exact ⟨rfl, rfl⟩

section
variable {a : Word} {s t : State} (hk : ∀ k, switchEntry a ≠ .languageCard k)
include hk

theorem switchRead_latches {w : Byte} (h : switchRead a s = .ok w t) : SameWriteLatches s.sw t.sw := by
  unfold switchRead at h
  split at h
  case h_3 => split at h <;> cases h <;> exact ⟨rfl, rfl⟩
  case h_7 he => exact absurd he (hk _)
  case h_8 => split at h <;> cases h; exact ⟨rfl, rfl⟩
  all_goals cases h
  case h_1 | h_2 | h_4 | h_5 | h_6 => exact ⟨rfl, rfl⟩
  all_goals exact switchTouch_latches a s

theorem switchWrite_latches {v : Byte} (h : switchWrite a v s = .ok () t) : SameWriteLatches s.sw t.sw := by
  unfold switchWrite at h
  split at h
  case h_1 =>
    cases h
    exact setPairFlag_latches _ _ _
  case h_7 he => exact absurd he (hk _)
  case h_8 => split at h <;> cases h; exact ⟨rfl, rfl⟩
  all_goals cases h
  case h_2 | h_3 | h_4 | h_5 | h_6 => exact ⟨rfl, rfl⟩
  all_goals exact switchTouch_latches a s

end

section
variable {a : Word} {s t : State}

/-- An access outside 0xC080 to 0xC08F leaves both latches alone (R115). -/
theorem read_latches {w : Byte} (ha : a.toNat < 0xC080 ∨ 0xC090 ≤ a.toNat) (h : read a s = .ok w t) : SameWriteLatches s.sw t.sw := by
  by_cases hwin : 0xC000 ≤ a.toNat ∧ a.toNat < 0xC100
  · rw [read_switch hwin] at h
    refine switchRead_latches (fun k hk => ?_) h
    have := card_range ⟨hwin, hk⟩
    omega
  · rw [read_eq_peek (by omega)] at h
    cases h
    rw [expansionOff_sw]
    exact ⟨rfl, rfl⟩

theorem write_latches {v : Byte} (ha : a.toNat < 0xC080 ∨ 0xC090 ≤ a.toNat) (h : write a v s = .ok () t) :
    SameWriteLatches s.sw t.sw := by
  unfold write at h
  split at h
  · rename_i hsink
    have hwin := range_of_sink hsink
    refine switchWrite_latches (fun k hk => ?_) h
    have := card_range ⟨hwin, hk⟩
    omega
  · cases h
    exact ⟨rfl, rfl⟩
  · cases h
    rw [expansionOff_sw]
    exact ⟨rfl, rfl⟩

end

/-- LCWRITE after an access to the card's switches: off at an even address, at an odd one on if either latch was. -/
theorem lcwrite_of_card_access {k : BitVec 4} {v w : Byte} {s t : State}
    (h : read (0xC080 + k.setWidth 16) s = .ok w t ∨ write (0xC080 + k.setWidth 16) v s = .ok () t) :
    t.sw.lcwrite = if k.getLsbD 0 then s.sw.lcwrite || s.sw.lcpre else false := by
  rw [read_card, write_card, languageCardAccess_eq, languageCardAccess_eq] at h
  rcases h with h | h <;> cases h <;> rfl

theorem lcpre_of_card_read {k : BitVec 4} {w : Byte} {s t : State} (h : read (0xC080 + k.setWidth 16) s = .ok w t) :
    t.sw.lcpre = k.getLsbD 0 := by
  rw [read_card, languageCardAccess_eq] at h
  cases h
  exact Bool.and_true _

/-- Settles O49: LCWRITE is set only by an odd access that finds a latch set, LCPRE by an odd read, and neither elsewhere. -/
theorem twoAccessProperty : Obligations.TwoAccessProperty := by
  refine ⟨fun k v s t hpre hwrite h => ?_, fun k k' v w w' s t u hodd hodd' hr h => ?_, fun a v w s t ha h => ?_⟩
  · have hcard : t.sw.lcwrite = if k.getLsbD 0 then s.sw.lcwrite || s.sw.lcpre else false := by
      obtain ⟨w, h⟩ | h := h
      · exact lcwrite_of_card_access (v := v) (.inl h)
      · exact lcwrite_of_card_access (w := v) (.inr h)
    simpa [hpre, hwrite] using hcard
  · have hpre := lcpre_of_card_read hr
    have hcard := lcwrite_of_card_access h
    rwa [hodd', if_pos rfl, hpre, hodd, Bool.or_true] at hcard
  · exact h.elim (read_latches ha) (write_latches ha)

/-! The display switches and the annunciators (R101 to R106). -/

section
variable (v : Byte) (s : State)

/-- An access to the `k`-th display pair (R101, R102). -/
theorem touches_displayPair (k : Fin 4) (on : Bool) :
    Touches (pairAddr (0xC050 + BitVec.ofNat 16 (2 * k)) on) v s
      { s with
        sw := setDisplayFlag k on s.sw
        events := .displayInvalidate (pairAddr (0xC050 + BitVec.ofNat 16 (2 * k)) on) :: s.events } :=
  touches_display (entry_display k on)

/-- An access to the `k`-th annunciator pair (R105, R106). -/
theorem touches_annunciatorPair (k : Fin 4) (on : Bool) :
    Touches (pairAddr (0xC058 + BitVec.ofNat 16 (2 * k)) on) v s { s with sw := setAnnunciator k on s.sw } :=
  touches_annunciator (entry_annunciator k on)

end

/-- IOUDIS = 1 closes the gate (R106). -/
theorem setAnnunciator_closed {sw : Switches} (h : sw.ioudis = true) (k : Nat) (on : Bool) : setAnnunciator k on sw = sw := by
  unfold setAnnunciator
  exact if_pos h

/-- IOUDIS = 0 opens it (R105, R106). -/
theorem setAnnunciator_open {sw : Switches} (h : sw.ioudis = false) (on : Bool) :
    setAnnunciator 0 on sw = { sw with an0 := on } ∧ setAnnunciator 1 on sw = { sw with an1 := on } ∧
      setAnnunciator 2 on sw = { sw with an2 := on } ∧ setAnnunciator 3 on sw = { sw with an3 := on, dhires := !on } := by
  simp only [setAnnunciator, h, Bool.false_eq_true, if_false, and_self]

/-- Settles O50, pair by pair. -/
theorem displayAndAnnunciators : Obligations.DisplayAndAnnunciators := by
  intro v on s
  have shown := fun k => touches_displayPair v s k on
  have ann := fun k => touches_annunciatorPair v s k on
  refine ⟨shown 0, shown 1, shown 2, shown 3, fun h => ?_, fun h => ?_⟩
  · obtain ⟨h0, h1, h2, h3⟩ := setAnnunciator_open h on
    exact ⟨h0 ▸ ann 0, h1 ▸ ann 1, h2 ▸ ann 2, h3 ▸ ann 3⟩
  · simp only [setAnnunciator_closed h] at ann
    exact ⟨ann 0, ann 1, ann 2, ann 3⟩

/-! The keyboard strobe, the inputs, the audio addresses and the unlisted ones (R96 to R109, R117). -/

/-- What the ranges of unlisted addresses hold. -/
theorem mem_unlistedAddrs {n : Nat} (h : ∃ r ∈ Config.unlistedRanges, r.1 ≤ n ∧ n < r.1 + r.2) :
    BitVec.ofNat 16 (0xC000 + n) ∈ Config.unlistedAddrs := by
  obtain ⟨r, hr, hn⟩ := h
  exact List.mem_flatMap.mpr ⟨r, hr, List.mem_map.mpr ⟨n, List.mem_range'_1.mpr hn, rfl⟩⟩

/-- Settles O51, entry by entry. -/
theorem keyboardAndInputs : Obligations.KeyboardAndInputs := by
  intro v s
  have strobe : IsEntry 0xC010 .strobe := by decide
  have vblank : IsEntry 0xC019 (.status 9) := by decide
  have paddle : IsEntry 0xC070 .paddleReset := by decide
  have reset : Touches 0xC070 v s { s with events := .paddleReset :: s.events } := touches_paddleReset paddle
  have ioudisOn : IsEntry 0xC07E .ioudisSet := by decide
  have ioudisOff : IsEntry 0xC07F .ioudisClear := by decide
  have inputs : ∀ a ∈ ([0xC061, 0xC062, 0xC064, 0xC065] : List Word),
      read a s = .ok (Config.inputDraw s.draws a) { s with draws := s.draws + 1 } ∧ write a v s = .ok () s :=
    fun a ha => ⟨read_input (entry_input a ha), write_input (entry_input a ha)⟩
  have audio : ∀ a ∈ Config.audioToggleAddrs, 0xC000 ≤ a.toNat ∧ a.toNat < 0xC100 ∧
      read a s = .ok (floating s) { s with events := .audioToggle a :: s.events } ∧
      write a v s = .ok () { s with events := .audioToggle a :: s.events } := fun a ha => by
    obtain ⟨⟨hlo, hhi⟩, -⟩ := entry_audio ha
    exact ⟨hlo, hhi, touches_audio (entry_audio ha)⟩
  refine ⟨read_strobe strobe, write_strobe strobe, read_vblank vblank, inputs, reset.1, reset.2, read_ioudisSet ioudisOn,
    write_ioudisSet ioudisOn, read_ioudisClear ioudisOff, write_ioudisClear ioudisOff,
    ⟨audioToggleAddrs_length, audioToggleAddrs_nodup, audio⟩, fun n hn hna => ?_⟩
  refine touches_unlisted (entry_unlisted (mem_unlistedAddrs ?_) hna)
  simp only [Config.unlistedRanges, List.mem_cons, List.not_mem_nil, or_false, exists_eq_or_imp, exists_eq_left]
  omega

end Sys2Proof.Machine
end

section
/-! The opcode map and the encoder are inverse to each other: R140, R142 to R144, R147, R148 (O1 to O3). -/

namespace Sys2Proof

open Sys2Proof.Machine (joinBytes loByte hiByte)

/-! What an encoding is made of: the opcode byte, and the operand bytes that the row of this opcode byte asks for. -/

theorem encode_eq_opcode_cons (i : Instr) : encode i = i.opcode :: (encode i).tail := by
  cases i <;> rfl

theorem opcode_of_encode {i : Instr} {op : Byte} {operands : List Byte} (h : encode i = op :: operands) : i.opcode = op := by
  rw [Instr.opcode, h, List.headD_cons]

/-- The row gives the instruction for some operand. -/
inductive RowEntry.Builds : RowEntry → Instr → Prop
  | one (i : Instr) : Builds (.one i) i
  | two (f : Byte → Instr) (b1 : Byte) : Builds (.two f) (f b1)
  | wide (f : Word → Instr) (w : Word) : Builds (.wide f) (f w)
  | pair (f : Byte → Byte → Instr) (b1 b2 : Byte) : Builds (.pair f) (f b1 b2)

/-- The converse of `entryOf_atPlace`: every instruction stands in the map, in the row of its first byte (R144). -/
theorem builds_of_encode {i : Instr} {op : Byte} {operands : List Byte} (h : encode i = op :: operands) : (entryOf op).Builds i := by
  cases i <;> cases h <;> constructor

theorem entryOf_opcode_builds (i : Instr) : (entryOf i.opcode).Builds i :=
  builds_of_encode (encode_eq_opcode_cons i)

/-! The two directions of the round trip. -/

/-- The row that builds `i` takes the operand bytes that `i` is encoded with; a 16-bit operand is split and joined again. -/
theorem decode_encode (i : Instr) (rest : List Byte) : decode (encode i ++ rest) = .ok (i, rest) := by
  have place := entryOf_atPlace i.opcode
  have built := entryOf_opcode_builds i
  generalize hrow : entryOf i.opcode = row at place built
  cases built with
  | one =>
    rw [show encode i = [i.opcode] from place]
    exact decode_one hrow rest
  | two f b1 =>
    rw [place b1]
    exact decode_two hrow b1 rest
  | wide f w =>
    rw [place w]
    exact (decode_wide hrow (loByte w) (hiByte w) rest).trans (by rw [joinBytes_split])
  | pair f b1 b2 =>
    rw [place b1 b2]
    exact decode_pair hrow b1 b2 rest

/-- Whatever three bytes come first, an instruction with that opcode byte is encoded by them or the first of them (R143, R148). -/
theorem exists_encode (op b1 b2 : Byte) (rest : List Byte) :
    ∃ i operands after, encode i = op :: operands ∧ operands ++ after = b1 :: b2 :: rest ∧ operands.length ≤ 2 := by
  have place := entryOf_atPlace op
  generalize entryOf op = row at place
  cases row with
  | one i => exact ⟨i, [], b1 :: b2 :: rest, place, rfl, Nat.zero_le 2⟩
  | two f => exact ⟨f b1, [b1], b2 :: rest, place b1, rfl, Nat.le_succ 1⟩
  | wide f =>
    have hencode := place (joinBytes b1 b2)
    rw [loByte_joinBytes, hiByte_joinBytes] at hencode
    exact ⟨f (joinBytes b1 b2), [b1, b2], rest, hencode, rfl, Nat.le_refl 2⟩
  | pair f => exact ⟨f b1 b2, [b1, b2], rest, place b1 b2, rfl, Nat.le_refl 2⟩

/-! The obligations. -/

/-- Settles O1: no instruction is ill-formed (R142, R147), so the round trip needs no premise. -/
theorem decodeEncode : Obligations.DecodeEncode :=
  fun i rest _ => decode_encode i rest

/-- Settles O2: the bytes are an encoding and what follows it, and decoding an encoding gives its instruction. -/
theorem everyOpcodeDecodes : Obligations.EveryOpcodeDecodes := by
  intro op b1 b2 rest
  obtain ⟨i, operands, after, hencode, hbytes, hlength⟩ := exists_encode op b1 b2 rest
  have hsplit : op :: b1 :: b2 :: rest = encode i ++ after := by rw [hencode, List.cons_append, hbytes]
  refine ⟨i, after, ?_, hsplit, opcode_of_encode hencode, ?_, ?_⟩
  · rw [hsplit, decode_encode]
  · rw [hencode, List.length_cons]
    omega
  · rw [hencode, List.length_cons]
    omega

/-- Settles O3: each word is the encoding of its instruction. -/
theorem knownWords : Obligations.KnownWords :=
  ⟨decode_encode (.ldaImm 0x2A) [], decode_encode (.staAbs 0x1234) [], decode_encode .pha [], decode_encode (.adcIzy 0x40) [],
    decode_encode (.bitAbx 0x20FF) [], decode_encode (.jmpInd 0x12FF) [], decode_encode (.bne 0xFC) [],
    decode_encode (.bbs0 0x10 0xF0) [], decode_encode .brk [0x55], decode_encode (.nop5C 0x1234) [], decode_encode .stp []⟩

end Sys2Proof
end

section
/-! A step: the bytes of an instruction are fetched one by one, and the instruction runs in the state the fetches leave: R170 to R173 (O4, O5). -/

namespace Sys2Proof.Machine

open Sys2Proof.Claims

/-- In Running and SingleStep a step is one instruction (R441, R442). -/
theorem step_of_runs {s : State} (h : runs s) : step s = runInstruction s := by
  obtain h | h := h <;> simp only [step, h]

/-- The first byte of a sequence is one fetch. -/
theorem fetchesAs_fetchByte {b : Byte} {bs : List Byte} {s t : State} (h : FetchesAs (b :: bs) s t) :
    ∃ s1, fetchByte s = .ok b s1 ∧ FetchesAs bs s1 t := by
  obtain ⟨s1, hread, hrest⟩ := h
  exact ⟨_, by rw [fetchByte, hread, Res.bind_ok], hrest⟩

/-- Bytes that are an instruction's encoding are fetched as this instruction: the row that builds it takes exactly its bytes. -/
theorem fetch_of_fetchesAs {i : Instr} {s t : State} (h : FetchesAs (encode i) s t) : fetch s = .ok i t := by
  have place := entryOf_atPlace i.opcode
  have built := entryOf_opcode_builds i
  generalize hrow : entryOf i.opcode = row at place built
  cases built with
  | one =>
    rw [show encode i = [i.opcode] from place] at h
    obtain ⟨s1, h1, rfl⟩ := fetchesAs_fetchByte h
    simp only [fetch, h1, hrow, Res.bind_ok]
  | two f b1 =>
    rw [place b1] at h
    obtain ⟨s1, h1, h⟩ := fetchesAs_fetchByte h
    obtain ⟨s2, h2, rfl⟩ := fetchesAs_fetchByte h
    simp only [fetch, h1, hrow, h2, Res.bind_ok]
  | wide f w =>
    rw [place w] at h
    obtain ⟨s1, h1, h⟩ := fetchesAs_fetchByte h
    obtain ⟨s2, h2, h⟩ := fetchesAs_fetchByte h
    obtain ⟨s3, h3, rfl⟩ := fetchesAs_fetchByte h
    simp only [fetch, h1, hrow, h2, h3, Res.bind_ok, joinBytes_split]
  | pair f b1 b2 =>
    rw [place b1 b2] at h
    obtain ⟨s1, h1, h⟩ := fetchesAs_fetchByte h
    obtain ⟨s2, h2, h⟩ := fetchesAs_fetchByte h
    obtain ⟨s3, h3, rfl⟩ := fetchesAs_fetchByte h
    simp only [fetch, h1, hrow, h2, h3, Res.bind_ok]

theorem step_of_fetchesAs {i : Instr} {s t : State} (hruns : runs s) (h : FetchesAs (encode i) s t) : step s = exec i t := by
  rw [step_of_runs hruns, runInstruction, fetch_of_fetchesAs h]

/-- Settles O5: what the bytes are fetched as is the instruction they encode. -/
theorem stepFetchesThroughDecoder : Obligations.StepFetchesThroughDecoder :=
  fun _ _ _ hruns h => step_of_fetchesAs hruns h

/-! Fetches without side effects. -/

/-- Bytes at quiet addresses are fetched by moving PC past them, and nothing else changes (R65, R170); what an address reads as does not
depend on PC. -/
theorem fetchesAs_quiet {bs : List Byte} {s : State}
    (h : ∀ k b, bs[k]? = some b → quiet (s.pc + BitVec.ofNat 16 k) = true ∧ peek (s.pc + BitVec.ofNat 16 k) s = b) :
    FetchesAs bs s { s with pc := s.pc + BitVec.ofNat 16 bs.length } := by
  induction bs generalizing s with
  | nil => simp [FetchesAs]
  | cons b bs ih =>
    have shift (k : Nat) : s.pc + BitVec.ofNat 16 (k + 1) = s.pc + 1 + BitVec.ofNat 16 k := by bv_omega
    obtain ⟨hquiet, hbyte⟩ := h 0 b rfl
    rw [BitVec.add_zero] at hquiet hbyte
    refine ⟨s, hbyte ▸ read_quiet hquiet, ?_⟩
    rw [List.length_cons, shift]
    exact ih fun k b' hk => shift k ▸ h (k + 1) b' hk

/-- What the decoder reads from bytes is what they begin with the encoding of (R142, R143). -/
theorem eq_encode_append_of_decode {op b1 b2 : Byte} {rest after : List Byte} {i : Instr}
    (h : decode (op :: b1 :: b2 :: rest) = .ok (i, after)) : op :: b1 :: b2 :: rest = encode i ++ after := by
  obtain ⟨j, after', hdecode, hbytes, -⟩ := everyOpcodeDecodes op b1 b2 rest
  cases hdecode.symm.trans h
  exact hbytes

/-- Settles O4: the bytes at PC are the encoding of what they decode to, and fetching them only moves PC. -/
theorem stepRunsDecoded : Obligations.StepRunsDecoded := by
  intro s i rest hruns hdecode hquiet
  have hbytes := eq_encode_append_of_decode hdecode
  refine step_of_fetchesAs hruns (fetchesAs_quiet fun k b hk => ?_)
  have hlt := (List.getElem?_eq_some_iff.mp hk).1
  have hget : [peek s.pc s, peek (s.pc + 1) s, peek (s.pc + 2) s][k]? = some b := by
    rw [hbytes, List.getElem?_append_left hlt, hk]
  refine ⟨hquiet k hlt, ?_⟩
  match k, hget with
  | 0, hget => simpa using hget
  | 1, hget => simpa using hget
  | 2, hget => simpa using hget

end Sys2Proof.Machine
end

section
/-! Every instruction completes with both heads on the image, and what it costs: R144, R177, R189, R190, R430, R431 (O8). -/

namespace Sys2Proof.Machine

open Sys2Proof.Claims

/-! An access with the head on the image. -/

theorem current_onImage {k : Disk} (h : headsOnImage k = true) : k.current.track < Config.tracksInImage := by
  simp only [headsOnImage, Bool.and_eq_true, decide_eq_true_eq] at h
  obtain ⟨h0, h1⟩ := h
  unfold Disk.current
  cases k.cur with
  | zero => exact h0
  | one => exact h1

theorem read_answers_onImage {s : State} (h : headsOnImage s.disk = true) (a : Word) : ∃ v t, read a s = .ok v t :=
  (read_answers a s).resolve_right fun ⟨_, htrack⟩ => Nat.not_lt_of_le htrack (current_onImage h)

theorem write_answers_onImage {s : State} (h : headsOnImage s.disk = true) (a : Word) (v : Byte) : ∃ t, write a v s = .ok () t :=
  (write_answers a v s).resolve_right fun ⟨_, htrack⟩ => Nat.not_lt_of_le htrack (current_onImage h)

/-! Two accesses in a row: the first does not bring a head off the image where the second shifts. -/

/-- A shift that answers leaves the head where it was, on the image (R463). -/
theorem shiftLatch_onImage {k k' : Disk} (h : shiftLatch k = .ok k') : k'.current.track < Config.tracksInImage := by
  unfold shiftLatch at h
  dsimp only at h
  split at h
  · cases h
  · rename_i htrack
    split at h
    all_goals
      cases h
      rw [Disk.current_setCurrent]
      exact Nat.lt_of_not_le htrack

/-- So does a read at 0xC0EC, the address of the shift. -/
theorem read_shift_onImage {s t : State} {v : Byte} (h : read 0xC0EC s = .ok v t) : t.disk.current.track < Config.tracksInImage := by
  have hentry : IsEntry 0xC0EC (.disk 0xC) := entry_disk 0xC (by decide)
  simp only [read_switch hentry.1, switchRead, hentry.2, diskRead, if_true] at h
  cases hshift : shiftLatch s.disk with
  | error f =>
    rw [hshift] at h
    cases h
  | ok k =>
    rw [hshift] at h
    cases h
    exact shiftLatch_onImage hshift

/-- Where a read answers, a write after it does too (R192): at 0xC0EC the head is still on the image, elsewhere no write can fault. -/
theorem write_answers_after_read {a : Word} {v : Byte} {s t : State} (h : read a s = .ok v t) (u : Byte) : ∃ t', write a u t = .ok () t' := by
  obtain hw | ⟨rfl, htrack⟩ := write_answers a u t
  · exact hw
  · exact absurd (read_shift_onImage h) (Nat.not_lt_of_le htrack)

/-- The address before the shift selects a drive and moves no head (R462). -/
theorem read_selectDrive_onImage {s t : State} {v : Byte} (h : headsOnImage s.disk = true) (hr : read 0xC0EB s = .ok v t) :
    headsOnImage t.disk = true := by
  have hentry : IsEntry 0xC0EB (.disk 0xB) := entry_disk 0xB (by decide)
  rw [read_switch hentry.1, switchRead, hentry.2] at hr
  cases hr
  exact h

/-- Both bytes of a pointer can be read: the first read may move a head, but not where the second one shifts. -/
theorem read_next_answers {p : Word} {s t : State} {v : Byte} (h : headsOnImage s.disk = true) (hr : read p s = .ok v t) :
    ∃ w u, read (p + 1) t = .ok w u := by
  obtain hnext | ⟨hp, htrack⟩ := read_answers (p + 1) t
  · exact hnext
  · have hp : p = 0xC0EB := by bv_omega
    exact absurd (current_onImage (read_selectDrive_onImage h (hp ▸ hr))) (Nat.not_lt_of_le htrack)

/-! The branch terms of the claims and of the model. -/

theorem target_eq (rel : Byte) (s : State) : target s.pc rel = branchTarget rel s := by
  rw [target, BitVec.ofInt_add, BitVec.ofInt_natCast, BitVec.ofNat_toNat, BitVec.setWidth_eq]
  rfl

/-- The page bits of an address: its high byte over eight zeros. -/
theorem and_page_mask (w : Word) : w &&& 0xFF00 = hiByte w ++ 0#8 := by
  have hmask : w &&& (0xFF00 : Word) = w >>> 8 <<< 8 := (BitVec.shiftLeft_ushiftRight (x := w) (n := 8)).symm
  have hw := w.isLt
  apply BitVec.eq_of_toNat_eq
  rw [hmask, BitVec.toNat_append, hiByte, BitVec.toNat_shiftLeft, BitVec.toNat_setWidth, BitVec.toNat_ushiftRight,
    BitVec.toNat_zero, Nat.or_zero, Nat.shiftLeft_eq, Nat.shiftLeft_eq, Nat.shiftRight_eq_div_pow]
  omega

theorem pageDiff_eq (a b : Word) : pageDiff a b = pageChange b a := by
  have hpage : a &&& 0xFF00 = b &&& 0xFF00 ↔ hiByte a = hiByte b := by
    rw [and_page_mask, and_page_mask]
    exact BitVec.append_left_inj 0
  simp only [pageDiff, pageChange, hpage]

/-! What each class of instruction takes. -/

/-- `r` is a next state, and its `ticks` are those of `s` and `n` more. -/
def Takes (r : Result) (s : State) (n : Nat) : Prop := ∃ t, r = .next t ∧ t.ticks = s.ticks + BitVec.ofNat 64 n

section
variable {s u : State} {n : Nat} {c : Cost}

theorem takes_tick (h : u.ticks = s.ticks) : Takes (.next (u.tick n)) s n := ⟨_, rfl, by rw [State.tick_ticks, h]⟩

theorem takes_charge {cross : Bool} (h : u.ticks = s.ticks) (hn : n = c.base + penalty c.pagePenalty cross) :
    Takes (.next (charge c cross u)) s n := hn ▸ takes_tick h

theorem withRead_takes {o : Operand} {k : Byte → State → State} (hs : headsOnImage s.disk = true) (hk : ∀ v u, (k v u).ticks = u.ticks)
    (hn : n = c.base + penalty c.pagePenalty (operandCrosses o s)) : Takes (withRead o c k s) s n := by
  cases o with
  | imm v => exact takes_charge (hk v s) hn
  | mem m =>
    obtain ⟨v, s1, hr⟩ := read_answers_onImage hs (effAddr m s)
    rw [withRead_mem, hr, Res.bind_ok, Res.outcome_ok]
    exact takes_charge ((hk v s1).trans (read_same hr).ticks_eq) hn

theorem withWrite_takes {m : MemMode} {v : State → Byte} (hs : headsOnImage s.disk = true)
    (hn : n = c.base + penalty c.pagePenalty (crosses m s)) : Takes (withWrite m c v s) s n := by
  obtain ⟨s1, hw⟩ := write_answers_onImage hs (effAddr m s) (v s)
  rw [withWrite_eq, hw, Res.bind_ok, Res.outcome_ok]
  exact takes_charge (write_ticks hw) hn

theorem withModify_takes {m : MemMode} {f : State → Byte → Byte × Status} (hs : headsOnImage s.disk = true)
    (hn : n = c.base + penalty c.pagePenalty (crosses m s)) : Takes (withModify (.mem m) c f s) s n := by
  obtain ⟨v, s1, hr⟩ := read_answers_onImage hs (effAddr m s)
  obtain ⟨s2, hw⟩ := write_answers_after_read hr (f s1 v).1
  rw [withModify_mem, hr, Res.bind_ok, hw, Res.bind_ok, Res.outcome_ok]
  have hticks : s2.ticks = s.ticks := (write_ticks hw).trans (read_same hr).ticks_eq
  exact takes_charge hticks hn

theorem withModifyAcc_takes {f : State → Byte → Byte × Status} (hn : n = c.base + penalty c.pagePenalty false) :
    Takes (withModify .acc c f s) s n := by
  rw [withModify_acc]
  exact takes_charge rfl hn

theorem withNone_takes {k : State → State} (hk : (k s).ticks = s.ticks) : Takes (withNone n k s) s n := takes_tick hk

theorem withPush_takes {v : State → Byte} : Takes (withPush v s) s 3 := by
  rw [withPush_eq]
  exact takes_tick rfl

theorem withPull_takes {k : Byte → State → State} (hk : ∀ v u, (k v u).ticks = u.ticks) : Takes (withPull k s) s 4 := by
  rw [withPull_eq]
  exact takes_tick (hk _ _)

theorem jumpThrough_takes {p : Word} (hs : headsOnImage s.disk = true) : Takes (jumpThrough p s) s 6 := by
  obtain ⟨lo, s1, hr1⟩ := read_answers_onImage hs p
  obtain ⟨hi, s2, hr2⟩ := read_next_answers hs hr1
  rw [jumpThrough_eq, hr1, Res.bind_ok, hr2, Res.bind_ok, Res.outcome_ok]
  have hticks : s2.ticks = s.ticks := ((read_same hr1).trans (read_same hr2)).ticks_eq
  exact takes_tick hticks

/-- A branch not taken pays its base cost only (R190). -/
theorem branchIf_takes {base : Nat} {taken : Bool} {rel : Byte}
    (hn : n = base + if taken then 1 + pageDiff (target s.pc rel) s.pc else 0) : Takes (.next (branchIf base taken rel s)) s n := by
  rw [target_eq, pageDiff_eq] at hn
  subst hn
  cases taken with
  | false => exact takes_tick rfl
  | true => exact Nat.add_assoc .. ▸ takes_tick rfl

theorem branchOnBit_takes {k : Nat} {want taken : Bool} {z rel : Byte} (htaken : ((zeroPageByte z s).getLsbD k == want) = taken)
    (hn : n = 5 + if taken then 1 + pageDiff (target s.pc rel) s.pc else 0) : Takes (branchOnBit k want z rel s) s n := by
  rw [branchOnBit_eq]
  exact branchIf_takes (htaken ▸ hn)

theorem execBra_takes {rel : Byte} : Takes (execBra rel s) s (3 + pageDiff (target s.pc rel) s.pc) := by
  rw [target_eq, pageDiff_eq]
  exact takes_tick rfl

theorem execJsr_takes {w : Word} : Takes (execJsr w s) s 6 := by
  rw [execJsr, pushWord_eq]
  exact takes_tick rfl

theorem execRts_takes : Takes (execRts s) s 6 := by
  rw [execRts, pullWord_eq]
  exact takes_tick rfl

theorem execRti_takes : Takes (execRti s) s 6 := by
  rw [execRti, returnFromHandler_eq]
  exact takes_tick rfl

theorem execBrk_takes : Takes (execBrk s) s 7 := by
  obtain ⟨r, -, henter⟩ := enterHandler_eq 0xFFFE true { s with pc := s.pc + 1 } (by decide) (by decide)
  rw [execBrk, henter]
  exact takes_tick rfl

end

-- The classes stay folded, so that the goal is matched against a class and not against its body; the opcode byte is reduced to a literal
-- first, so that each cost is a closed look-up in the map.
seal withRead withModify withWrite withNone withPush withPull branchOnBit branchIf jumpThrough in
/-- With both heads on the image every instruction completes, at its cost by the opcode map and the penalties. -/
theorem exec_takes (i : Instr) {s : State} (hs : headsOnImage s.disk = true) : Takes (exec i s) s (cost i s) := by
  simp only [cost, Instr.opcode]
  cases i with simp only [encode, List.headD_cons]
  | ldaIzx | ldaZp | ldaImm | ldaAbs | ldaIzy | ldaZpi | ldaZpx | ldaAby | ldaAbx | andIzx | andZp | andImm | andAbs | andIzy
  | andZpi | andZpx | andAby | andAbx | oraIzx | oraZp | oraImm | oraAbs | oraIzy | oraZpi | oraZpx | oraAby | oraAbx | eorIzx
  | eorZp | eorImm | eorAbs | eorIzy | eorZpi | eorZpx | eorAby | eorAbx | adcIzx | adcZp | adcImm | adcAbs | adcIzy | adcZpi
  | adcZpx | adcAby | adcAbx | sbcIzx | sbcZp | sbcImm | sbcAbs | sbcIzy | sbcZpi | sbcZpx | sbcAby | sbcAbx | cmpIzx | cmpZp
  | cmpImm | cmpAbs | cmpIzy | cmpZpi | cmpZpx | cmpAby | cmpAbx | ldxImm | ldxZp | ldxAbs | ldxZpy | ldxAby | ldyImm | ldyZp
  | ldyAbs | ldyZpx | ldyAbx | cpxImm | cpxZp | cpxAbs | cpyImm | cpyZp | cpyAbs | bitImm | bitZp | bitAbs | bitZpx | bitAbx =>
    exact withRead_takes hs (fun _ _ => rfl) rfl
  | staIzx | staZp | staAbs | staIzy | staZpi | staZpx | staAby | staAbx | stxZp | stxAbs | stxZpy | styZp | styAbs | styZpx
  | stzZp | stzZpx | stzAbs | stzAbx =>
    exact withWrite_takes hs rfl
  | incZp | incAbs | incZpx | incAbx | decZp | decAbs | decZpx | decAbx | tsbZp | tsbAbs | trbZp | trbAbs | aslZp | aslAbs | aslZpx
  | aslAbx | lsrZp | lsrAbs | lsrZpx | lsrAbx | rolZp | rolAbs | rolZpx | rolAbx | rorZp | rorAbs | rorZpx | rorAbx | rmb0 | rmb1
  | rmb2 | rmb3 | rmb4 | rmb5 | rmb6 | rmb7 | smb0 | smb1 | smb2 | smb3 | smb4 | smb5 | smb6 | smb7 =>
    exact withModify_takes hs rfl
  | incAcc | decAcc | aslAcc | lsrAcc | rolAcc | rorAcc =>
    exact withModifyAcc_takes rfl
  | tax | tay | txa | tya | tsx | txs | inx | iny | dex | dey | clc | sec | cli | sei | cld | sed | clv | wai | stp | jmpAbs
  | nop02 | nop22 | nop42 | nop62 | nop82 | nopC2 | nopE2 | nop44 | nop54 | nopD4 | nopF4 | nop5C | nopDC | nopFC | nop03 | nop0B
  | nop13 | nop1B | nop23 | nop2B | nop33 | nop3B | nop43 | nop4B | nop53 | nop5B | nop63 | nop6B | nop73 | nop7B | nop83 | nop8B
  | nop93 | nop9B | nopA3 | nopAB | nopB3 | nopBB | nopC3 | nopD3 | nopE3 | nopEB | nopF3 | nopFB | nop =>
    exact withNone_takes rfl
  | php | pha | phx | phy =>
    exact withPush_takes
  | pla | plx | ply | plp =>
    exact withPull_takes fun _ _ => rfl
  | jmpInd | jmpIax =>
    exact jumpThrough_takes hs
  | bpl | bmi | bvc | bvs | bcc | bcs | bne | beq =>
    exact branchIf_takes rfl
  | bra =>
    exact execBra_takes
  | bbr0 | bbr1 | bbr2 | bbr3 | bbr4 | bbr5 | bbr6 | bbr7 =>
    exact branchOnBit_takes (beq_false _) rfl
  | bbs0 | bbs1 | bbs2 | bbs3 | bbs4 | bbs5 | bbs6 | bbs7 =>
    exact branchOnBit_takes (beq_true _) rfl
  | jsr =>
    exact execJsr_takes
  | rts =>
    exact execRts_takes
  | rti =>
    exact execRti_takes
  | brk =>
    exact execBrk_takes

/-- Settles O8, class by class: no access of the instruction is a shift past the image, so it completes, and pays its row's cost. -/
theorem everyInstructionCompletes : Obligations.EveryInstructionCompletes :=
  fun i _ hs => exec_takes i hs

end Sys2Proof.Machine
end

section
/-! Loads, stores and the instructions on registers alone: 41 R200 to R212, 43 R263 to R266 (O9, O10, O11). -/

namespace Sys2Proof.Machine

open Sys2Proof.Claims

/-- `SetNZ` of the model and of the claims (R31). -/
theorem setNZ_eq_nz (p : Status) (r : Byte) : p.setNZ r = nz p r := rfl

/-! What each class of instruction claims, from the class that runs it. -/

/-- When the one read of the operand answers, a reading instruction completes. -/
theorem withRead_of_operandRead {o : Operand} {c : Cost} {k : Byte → State → State} {s s1 : State} {v : Byte}
    (h : operandRead o s = .ok v s1) : withRead o c k s = .next (charge c (operandCrosses o s) (k v s1)) := by
  cases o with
  | imm b =>
    cases h
    rfl
  | mem m =>
    rw [operandRead] at h
    rw [withRead_mem, h, Res.bind_ok, Res.outcome_ok]
    rfl

/-- When its one write answers, a storing instruction completes; an unmarked entry never pays for a page (R189). -/
theorem withWrite_of_write {m : MemMode} {base : Nat} {v : State → Byte} {s s1 : State}
    (h : write (effAddr m s) (v s) s = .ok () s1) : withWrite m ⟨base, false⟩ v s = .next (s1.tick base) := by
  rw [withWrite_eq, h, Res.bind_ok, Res.outcome_ok]
  rfl

section
variable {i : Instr} {opcode : Byte} {base : Nat}

theorem readForm_of_withRead {o : Operand} {marked : Bool} {k eff : Byte → State → State} (hop : i.opcode = opcode)
    (hexec : ∀ s, exec i s = withRead o ⟨base, marked⟩ k s) (hk : ∀ v s, k v s = eff v s) : ReadForm i opcode o base marked eff := by
  refine ⟨hop, fun s v s1 hread => ?_⟩
  rw [hexec, withRead_of_operandRead hread, hk]
  rfl

theorem storeForm_of_withWrite {m : MemMode} {v : State → Byte} (hop : i.opcode = opcode)
    (hexec : ∀ s, exec i s = withWrite m ⟨base, false⟩ v s) : StoreForm i opcode m base v :=
  ⟨hop, fun s _ hwrite => (hexec s).trans (withWrite_of_write hwrite)⟩

theorem plainForm_of_withNone {k eff : State → State} (hop : i.opcode = opcode) (hexec : ∀ s, exec i s = withNone base k s)
    (hk : ∀ s, k s = eff s) : PlainForm i opcode base eff :=
  ⟨hop, fun s => by rw [hexec, withNone, hk]⟩

end

/-! The three statements: each instruction is one of its class. -/

-- The classes stay folded, so that `exec` is matched against a class and not against its body.
seal withRead in
/-- Settles O9: every form is of the read class, with the register and its N and Z as the effect. -/
theorem loads : Obligations.Loads := by
  unfold Obligations.Loads AluForms
  and_intros
  all_goals exact fun _ => readForm_of_withRead rfl (fun _ => rfl) fun _ _ => by simp only [setNZ_eq_nz]

seal withWrite in
/-- Settles O10: every form is of the write class, in an unmarked entry. -/
theorem stores : Obligations.Stores := by
  unfold Obligations.Stores
  and_intros
  all_goals exact fun _ => storeForm_of_withWrite rfl fun _ => rfl

seal withNone in
/-- Settles O11: every one of them makes no access, and all but TXS set N and Z. -/
theorem registerOnly : Obligations.RegisterOnly := by
  refine ⟨?tax, ?tay, ?txa, ?tya, ?tsx, ?txs, ?inx, ?iny, ?dex, ?dey⟩
  case txs => exact plainForm_of_withNone rfl (fun _ => rfl) fun _ => rfl
  all_goals exact plainForm_of_withNone rfl (fun _ => rfl) fun _ => by simp only [setNZ_eq_nz]

end Sys2Proof.Machine
end

section
/-! The stack instructions: 42 R230 to R239 (O12, O13). -/

namespace Sys2Proof.Machine

open Sys2Proof.Claims

/-! The byte form of P. -/

/-- A claim about every P is one about seven flags. -/
theorem forall_status {motive : Status → Prop} : (∀ p, motive p) ↔ ∀ c z i d b v n, motive ⟨c, z, i, d, b, v, n⟩ :=
  ⟨fun h c z i d b v n => h ⟨c, z, i, d, b, v, n⟩, fun h ⟨c, z, i, d, b, v, n⟩ => h c z i d b v n⟩

/-- The byte form of the model and of the claims (R27). -/
theorem pack_eq_statusByteOf : ∀ p : Status, p.pack = statusByteOf p := forall_status.2 (by decide)

/-- Bits 4 and 5 set in the byte are B set in P, since U is 1 already (R29, R232). -/
theorem pack_or_breakBits : ∀ p : Status, p.pack ||| 0x30 = { p with b := true }.pack := forall_status.2 (by decide)

/-- What is written to the byte form is read back, with U as 1 (R28, R29). -/
theorem pack_unpack : ∀ v : Byte, (Status.unpack v).pack = v ||| 0x20 := by decide

/-! What the push and the pull class claim. -/

section
variable {i : Instr} {opcode : Byte}

theorem plainForm_of_withPush {v : State → Byte} {eff : State → State} (hop : i.opcode = opcode) (hexec : ∀ s, exec i s = withPush v s)
    (heff : ∀ s, { s with ram := s.ram.store (zeroBank s.sw) (0x100 + s.sp.toNat) (v s), sp := s.sp - 1 } = eff s) :
    PlainForm i opcode 3 eff :=
  ⟨hop, fun s => by rw [hexec, withPush_eq, heff]⟩

theorem plainForm_of_withPull {k : Byte → State → State} {eff : State → State} (hop : i.opcode = opcode)
    (hexec : ∀ s, exec i s = withPull k s) (heff : ∀ s, k (stackByte (s.sp + 1) s) { s with sp := s.sp + 1 } = eff s) :
    PlainForm i opcode 4 eff :=
  ⟨hop, fun s => by rw [hexec, withPull_eq, heff]⟩

end

/-- PLP in the model (R237): every flag of P comes from the pulled byte. -/
theorem exec_plp (s : State) :
    exec .plp s = .next ({ s with sp := s.sp + 1, p := Status.unpack (stackByte (s.sp + 1) s) }.tick 4) :=
  withPull_eq (fun v s => { s with p := Status.unpack v }) s

end Sys2Proof.Machine

-- A namespace of its own: `pushes` is a definition of the claims too.
namespace Sys2Proof.Machine.Stack

open Sys2Proof.Claims

seal withPush in
/-- Settles O12: each is of the push class, and PHP's byte is that of P with B set. -/
theorem pushes : Obligations.Pushes := by
  refine ⟨?php, ?pha, ?phx, ?phy⟩
  case php => exact plainForm_of_withPush rfl (fun _ => rfl) fun _ => by rw [pack_or_breakBits, pack_eq_statusByteOf]
  all_goals exact plainForm_of_withPush rfl (fun _ => rfl) fun _ => rfl

seal withPull in
/-- Settles O13: three are of the pull class with the register and its N and Z as the effect; PLP unpacks the byte into P. -/
theorem pulls : Obligations.Pulls := by
  refine ⟨?pla, ?plx, ?ply, rfl, fun s => ⟨_, exec_plp s, ?plp⟩⟩
  case plp => rw [← pack_eq_statusByteOf, pack_unpack]
  all_goals exact plainForm_of_withPull rfl (fun _ => rfl) fun _ => by simp only [setNZ_eq_nz]

end Sys2Proof.Machine.Stack
end

section
/-! ADC, SBC, compares, INC and DEC: 43 R250 to R262 (O14 to O19). -/

namespace Sys2Proof.Machine

open Sys2Proof.Claims

/-! The terms of the claims and of the model. -/

/-- A flag as a number, in the claims and in the model. -/
theorem bit_eq_carryIn (c : Bool) : bit c = carryIn c := rfl

/-- V as the rule says it (R251): the operands have one sign and the result the other. -/
theorem overflow_eq (a m r : Byte) : overflow a m r = (a.getLsbD 7 == m.getLsbD 7 && r.getLsbD 7 != a.getLsbD 7) := by
  have hmsb : ∀ b : Byte, b.getLsbD 7 = b.msb := fun b => (BitVec.msb_eq_getLsbD_last b).symm
  rw [overflow, BitVec.msb_and, BitVec.msb_xor, BitVec.msb_xor, hmsb, hmsb, hmsb]
  cases a.msb <;> cases m.msb <;> cases r.msb <;> rfl

/-- V of SBC, which adds the complement of M: the operands have different signs and the result that of M (R253). -/
theorem overflow_complement (a m r : Byte) : overflow a (m ^^^ 0xFF) r = (a.getLsbD 7 != m.getLsbD 7 && r.getLsbD 7 != a.getLsbD 7) := by
  have hsign : (m ^^^ 0xFF).getLsbD 7 = !m.getLsbD 7 := by
    rw [BitVec.getLsbD_xor]
    exact Bool.xor_true _
  have hne : ∀ b b' : Bool, (b == !b') = (b != b') := by decide
  rw [overflow_eq, hsign, hne]

theorem and_low_digit (n : Nat) : n &&& 0x0F = n % 16 := Nat.and_two_pow_sub_one_eq_mod n 4

theorem and_high_digit : ∀ b : Byte, b.toNat &&& 0xF0 = b.toNat / 16 * 16 := by decide

/-- A byte is its number modulo 256. -/
theorem ofInt_add_256 (n : Int) : BitVec.ofInt 8 (n + 256) = BitVec.ofInt 8 n := by
  rw [BitVec.ofInt_add]
  exact BitVec.add_zero _

/-- The sum that SBC takes, of A, the complement of M and C, is the difference and 256 (R253). -/
theorem complement_sum (a m : Byte) (c : Bool) :
    ((a.toNat + (m ^^^ 0xFF).toNat + carryIn c : Nat) : Int) = (a.toNat : Int) - m.toNat + carryIn c - 1 + 256 := by
  have hm := m.isLt
  have hnot : (m ^^^ 0xFF).toNat = 2 ^ 8 - 1 - m.toNat := by
    rw [← BitVec.toNat_not, ← BitVec.xor_allOnes]
    rfl
  omega

/-! The effects of the claims are those of the model. -/

theorem adcEffect_eq (m : Byte) (s : State) :
    adcEffect m s = { s with a := (adcResult s.p s.a m).1, p := (adcResult s.p s.a m).2 } := by
  simp only [adcEffect, adcResult, decimalAdd, and_low_digit, and_high_digit, bit_eq_carryIn, overflow_eq, setNZ_eq_nz]
  cases s.p.d with
  | false => rfl
  | true => rfl

theorem sbcEffect_eq (m : Byte) (s : State) :
    sbcEffect m s = { s with a := (sbcResult s.p s.a m).1, p := (sbcResult s.p s.a m).2 } := by
  have hsum := complement_sum s.a m s.p.c
  have hbyte : BitVec.ofNat 8 (s.a.toNat + (m ^^^ 0xFF).toNat + carryIn s.p.c) =
      BitVec.ofInt 8 ((s.a.toNat : Int) - m.toNat + carryIn s.p.c - 1) := by
    rw [← BitVec.ofInt_natCast, hsum, ofInt_add_256]
  have hcarry : 0xFF < s.a.toNat + (m ^^^ 0xFF).toNat + carryIn s.p.c ↔ 0 ≤ (s.a.toNat : Int) - m.toNat + carryIn s.p.c - 1 := by omega
  have hdiff : (s.a.toNat : Int) - m.toNat - (1 - carryIn s.p.c) = s.a.toNat - m.toNat + carryIn s.p.c - 1 := by omega
  simp only [sbcEffect, sbcResult, decimalSub, and_low_digit, bit_eq_carryIn, overflow_complement, setNZ_eq_nz, hbyte,
    hcarry, hdiff]

/-! On BCD operands. -/

/-- The value of a BCD number of three digits: its number, and a correction of 0x06 and of 0x60 for what each digit passes to the next. -/
def bcdValue (n : Nat) : Nat := n + 0x06 * (n / 10) + 0x60 * (n / 100)

theorem ofNat_bcdValue (n : Nat) : BitVec.ofNat 8 (bcdValue n) = bcd (n % 100) := by
  apply BitVec.eq_of_toNat_eq
  rw [bcd, bcdValue, BitVec.toNat_ofNat, BitVec.toNat_ofNat]
  omega

theorem carry_bcdValue (n : Nat) : 0x100 ≤ bcdValue n ↔ 100 ≤ n := by
  rw [bcdValue]
  omega

theorem carryIn_le_one : ∀ c : Bool, carryIn c ≤ 1 := by decide

section
variable {m n : Nat}

theorem toNat_bcd (h : n < 100) : (bcd n).toNat = n / 10 * 16 + n % 10 := by
  rw [bcd, BitVec.toNat_ofNat]
  omega

theorem bcd_low (h : n < 100) : (bcd n).toNat % 16 = n % 10 := by
  rw [toNat_bcd h]
  omega

theorem bcd_high (h : n < 100) : (bcd n).toNat / 16 = n / 10 := by
  rw [toNat_bcd h]
  omega

/-- `DecimalAdd` (R252): each of the two digits carries or not. -/
theorem decimalAdd_bcd (c : Bool) (hm : m < 100) (hn : n < 100) : decimalAdd (bcd m) (bcd n) c = bcdValue (m + n + carryIn c) := by
  have hc := carryIn_le_one c
  simp only [decimalAdd, bcdValue, bcd_low hm, bcd_low hn, bcd_high hm, bcd_high hn]
  split <;> split <;> omega

/-- `DecimalSub` (R255): each of the two digits borrows or not; 100 more, and the carry it makes taken off, keep the difference a `Nat`. -/
theorem decimalSub_bcd (c : Bool) (hm : m < 100) (hn : n < 100) :
    decimalSub (bcd m) (bcd n) c = bcdValue (m + 100 - n - (1 - carryIn c)) - 0x100 := by
  have hc := carryIn_le_one c
  simp only [decimalSub, bcdValue, bcd_low hm, bcd_low hn]
  rw [toNat_bcd hm, toNat_bcd hn]
  split <;> split <;> omega

/-- Decimal ADC of BCD operands: the digits of the sum, and its carry (R252). -/
theorem adcEffect_bcd {s : State} (hm : m < 100) (hn : n < 100) (hd : s.p.d = true) (ha : s.a = bcd m) :
    (adcEffect (bcd n) s).a = bcd ((m + n + bit s.p.c) % 100) ∧ (adcEffect (bcd n) s).p.c = decide (100 ≤ m + n + bit s.p.c) := by
  rw [adcEffect_eq]
  simp only [adcResult, hd, ha, if_true, Status.setNZ_c, decimalAdd_bcd s.p.c hm hn, ofNat_bcdValue, carry_bcdValue]
  exact ⟨rfl, rfl⟩

/-- Decimal SBC of BCD operands: the digits of the difference, and no borrow (R254, R255). -/
theorem sbcEffect_bcd {s : State} (hm : m < 100) (hn : n < 100) (hd : s.p.d = true) (ha : s.a = bcd m) :
    (sbcEffect (bcd n) s).a = bcd ((m + 100 - n - (1 - bit s.p.c)) % 100) ∧
      (sbcEffect (bcd n) s).p.c = decide (n + (1 - bit s.p.c) ≤ m) := by
  refine ⟨?digits, ?borrow⟩
  case digits =>
    rw [sbcEffect_eq]
    simp only [sbcResult, hd, ha, if_true]
    rw [decimalSub_bcd s.p.c hm hn, ← ofInt_add_256, Int.sub_add_cancel, BitVec.ofInt_natCast, ofNat_bcdValue, bit_eq_carryIn]
  case borrow =>
    have hc := carryIn_le_one s.p.c
    rw [sbcEffect, ha, toNat_bcd hm, toNat_bcd hn, bit_eq_carryIn]
    exact decide_eq_decide.2 (by omega)

/-- SBC with no borrow takes back what ADC with no carry added to `s`, and borrows exactly when the ADC carried (R257). -/
theorem sbcEffect_after_adcEffect {s u : State} (hm : m < 100) (hn : n < 100) (hd : s.p.d = true) (ha : s.a = bcd m) (hc : s.p.c = false)
    (hdu : u.p.d = true) (hau : u.a = (adcEffect (bcd n) s).a) (hcu : u.p.c = true) :
    (sbcEffect (bcd n) u).a = s.a ∧ (sbcEffect (bcd n) u).p.c = !(adcEffect (bcd n) s).p.c := by
  obtain ⟨hdigits, hcarry⟩ := adcEffect_bcd hm hn hd ha
  have hmod : (m + n) % 100 < 100 := Nat.mod_lt _ (by decide)
  simp only [hc, bit, Bool.false_eq_true, if_false, Nat.add_zero] at hdigits hcarry
  obtain ⟨hback, hborrow⟩ := sbcEffect_bcd hmod hn hdu (hau.trans hdigits)
  simp only [hcu, bit, if_true, Nat.sub_self, Nat.sub_zero, Nat.add_zero] at hback hborrow
  have hdiff : ((m + n) % 100 + 100 - n) % 100 = m := by omega
  have hle : n ≤ (m + n) % 100 ↔ ¬ 100 ≤ m + n := by omega
  rw [hback, hborrow, hcarry, hdiff, ha, ← decide_not]
  exact ⟨rfl, decide_eq_decide.2 hle⟩

end

/-! The instructions. -/

theorem exec_adcImm (m : Byte) (s : State) : exec (.adcImm m) s = .next ((adcEffect m s).tick 2) := by
  rw [adcEffect_eq]
  rfl

theorem exec_sbcImm (m : Byte) (s : State) : exec (.sbcImm m) s = .next ((sbcEffect m s).tick 2) := by
  rw [sbcEffect_eq]
  rfl

/-- CLC and SEC on what the decimal operations depend on (R400, R401). -/
theorem exec_clc_carry (s : State) : ∃ t, exec .clc s = .next t ∧ t.a = s.a ∧ t.p.d = s.p.d ∧ t.p.c = false := ⟨_, rfl, rfl, rfl, rfl⟩

theorem exec_sec_carry (s : State) : ∃ t, exec .sec s = .next t ∧ t.a = s.a ∧ t.p.d = s.p.d ∧ t.p.c = true := ⟨_, rfl, rfl, rfl, rfl⟩

seal withRead in
/-- Settles O14: every form is of the read class, with the model's ADC as the effect. -/
theorem addWithCarry : Obligations.AddWithCarry := by
  unfold Obligations.AddWithCarry AluForms
  and_intros
  all_goals exact fun _ => readForm_of_withRead rfl (fun _ => rfl) fun m s => (adcEffect_eq m s).symm

seal withRead in
/-- Settles O15: every form is of the read class, with the model's SBC as the effect. -/
theorem subtractWithBorrow : Obligations.SubtractWithBorrow := by
  unfold Obligations.SubtractWithBorrow AluForms
  and_intros
  all_goals exact fun _ => readForm_of_withRead rfl (fun _ => rfl) fun m s => (sbcEffect_eq m s).symm

/-- Settles O16: what the two effects are on BCD operands. -/
theorem bcdDigits : Obligations.BcdDigits :=
  fun _ n s hm hn hd ha => ⟨⟨_, exec_adcImm (bcd n) s, adcEffect_bcd hm hn hd ha⟩, ⟨_, exec_sbcImm (bcd n) s, sbcEffect_bcd hm hn hd ha⟩⟩

/-- Settles O17: CLC and SEC give ADC and SBC the carries under which the second undoes the first. -/
theorem bcdRoundTrip : Obligations.BcdRoundTrip := by
  intro m n s hm hn hd ha
  obtain ⟨s1, hclc, ha1, hd1, hc1⟩ := exec_clc_carry s
  obtain ⟨s3, hsec, ha3, hd3, hc3⟩ := exec_sec_carry ((adcEffect (bcd n) s1).tick 2)
  have hd1 : s1.p.d = true := hd1.trans hd
  obtain ⟨hback, hcarry⟩ := sbcEffect_after_adcEffect hm hn hd1 (ha1.trans ha) hc1 (hd3.trans hd1) ha3 hc3
  exact ⟨s1, _, s3, _, hclc, exec_adcImm (bcd n) s1, hsec, exec_sbcImm (bcd n) s3, hback.trans ha1, hcarry⟩

seal withRead in
/-- Settles O18: every form is of the read class, with the flags of the compare as the effect. -/
theorem compares : Obligations.Compares := by
  unfold Obligations.Compares AluForms
  and_intros
  all_goals exact fun _ => readForm_of_withRead rfl (fun _ => rfl) fun _ _ => rfl

/-! Read-modify-write. -/

section
variable {i : Instr} {opcode : Byte} {base : Nat} {f res : State → Byte → Byte × Status}

/-- The result may not depend on what a read changes, which is the devices only: it is taken after the read (R192). -/
theorem modifyForm_of_withModify {m : MemMode} {marked : Bool} (hop : i.opcode = opcode)
    (hexec : ∀ s, exec i s = withModify (.mem m) ⟨base, marked⟩ f s) (hf : ∀ s u v, SameButDevices s u → f u v = res s v) :
    ModifyForm i opcode m base marked res := by
  refine ⟨hop, fun s v s1 s2 hread hwrite => ?_⟩
  have hres : f s1 v = res s v := hf s s1 v (read_same hread)
  rw [hexec, withModify_mem, hread, Res.bind_ok, hres, hwrite, Res.bind_ok, Res.outcome_ok]
  rfl

theorem accForm_of_withModify (hop : i.opcode = opcode) (hexec : ∀ s, exec i s = withModify .acc ⟨2, false⟩ f s)
    (hf : ∀ s v, f s v = res s v) : AccForm i opcode res :=
  ⟨hop, fun s => by rw [hexec, withModify_acc, hf]; rfl⟩

end

seal withModify in
/-- Settles O19: every form is of the read-modify-write class, and its result depends on the byte and on P only. -/
theorem incDec : Obligations.IncDec := by
  refine ⟨?incAcc, ?_, ?_, ?_, ?_, ?decAcc, ?_, ?_, ?_, ?_⟩
  case incAcc | decAcc => exact accForm_of_withModify rfl (fun _ => rfl) fun _ _ => rfl
  all_goals exact fun _ => modifyForm_of_withModify rfl (fun _ => rfl) fun _ _ _ h => by rw [h.p_eq]; rfl

end Sys2Proof.Machine
end

section
/-! Logic, BIT, TSB, TRB, shifts, rotates and the bit instructions: 44 R280 to R306 (O20 to O25). -/

namespace Sys2Proof.Machine

open Sys2Proof.Claims

/-! The results as the claims write them. -/

/-- Z of A and M alone (R283 to R285). -/
theorem testFlags_eq (p : Status) (a m : Byte) : testFlags p a m = { p with z := decide (a &&& m = 0) } := rfl

/-- Z of A and M, and N and V from M (R283). -/
theorem bitFlags_eq (p : Status) (a m : Byte) :
    bitFlags p a m = { p with z := decide (a &&& m = 0), n := m.getLsbD 7, v := m.getLsbD 6 } := rfl

/-- TSB sets the bits that A has (R284). -/
theorem tsbResult_eq (p : Status) (a m : Byte) : tsbResult p a m = (m ||| a, { p with z := decide (a &&& m = 0) }) := rfl

/-- TRB clears the bits that A has (R285): the complement of A is A with all bits inverted. -/
theorem trbResult_eq (p : Status) (a m : Byte) : trbResult p a m = (m &&& (a ^^^ 0xFF), { p with z := decide (a &&& m = 0) }) := by
  have hnot : a ^^^ 0xFF = ~~~a := BitVec.xor_allOnes
  rw [hnot]
  rfl

/-- What the four shifts have in common: a byte given as a number modulo 256, the bit shifted out in C, and N and Z of the byte. -/
def shiftedOut (p : Status) (v : Nat) (out : Bool) : Byte × Status :=
  (BitVec.ofNat 8 v, nz { p with c := out } (BitVec.ofNat 8 v))

/-- One place to the left is twice the number; the carry takes the free bit 0 (R286, R288). -/
theorem shiftLeft_or_flagBit : ∀ (m : Byte) (c : Bool), m <<< 1 ||| flagBit c 0 = BitVec.ofNat 8 (2 * m.toNat + bit c) := by decide

/-- One place to the right is half the number; the carry takes the free bit 7 (R287, R289). -/
theorem shiftRight_or_flagBit : ∀ (m : Byte) (c : Bool), m >>> 1 ||| flagBit c 7 = BitVec.ofNat 8 (m.toNat / 2 + 128 * bit c) := by decide

section
variable (p : Status) (m : Byte)

theorem rolResult_eq : rolResult p m = shiftedOut p (2 * m.toNat + bit p.c) (m.getLsbD 7) := by
  rw [rolResult, shiftLeft_or_flagBit]
  rfl

theorem rorResult_eq : rorResult p m = shiftedOut p (m.toNat / 2 + 128 * bit p.c) (m.getLsbD 0) := by
  rw [rorResult, shiftRight_or_flagBit]
  rfl

/-- ASL is the shift of ROL with nothing to take in. -/
theorem aslResult_eq : aslResult p m = shiftedOut p (2 * m.toNat) (m.getLsbD 7) := by
  have hshift : m <<< 1 = BitVec.ofNat 8 (2 * m.toNat) := BitVec.or_zero.symm.trans (shiftLeft_or_flagBit m false)
  rw [aslResult, hshift]
  rfl

/-- LSR is the shift of ROR with nothing to take in. -/
theorem lsrResult_eq : lsrResult p m = shiftedOut p (m.toNat / 2) (m.getLsbD 0) := by
  have hshift : m >>> 1 = BitVec.ofNat 8 (m.toNat / 2) := BitVec.or_zero.symm.trans (shiftRight_or_flagBit m false)
  rw [lsrResult, hshift]
  rfl

end

/-- A result that depends on P and the byte only is the same before and after the read, which leaves P as it was. -/
theorem modifyForm_of_statusResult {i : Instr} {opcode : Byte} {m : MemMode} {base : Nat} {marked : Bool}
    {g : Status → Byte → Byte × Status} {res : State → Byte → Byte × Status} (hop : i.opcode = opcode)
    (hexec : ∀ s, exec i s = withModify (.mem m) ⟨base, marked⟩ (fun s v => g s.p v) s) (hres : ∀ s v, g s.p v = res s v) :
    ModifyForm i opcode m base marked res :=
  modifyForm_of_withModify hop hexec fun s _ v h => by rw [h.p_eq, hres]

/-! Bits of a zero-page byte. -/

section
variable {i : Byte → Instr} {opcode mask : Byte} {k : Nat}

/-- RMBn: every bit but bit `k` is in the mask (R291 to R298). -/
theorem bitStore_of_resetBit (hop : ∀ z, (i z).opcode = opcode) (hexec : ∀ z s, exec (i z) s = resetBit k z s)
    (hmask : ~~~(1#8 <<< k) = mask) : BitStore i opcode (fun m => m &&& mask) :=
  fun z => ⟨hop z, fun s => by rw [hexec, resetBit, modifyZeroPage_eq, hmask]; rfl⟩

/-- SMBn: bit `k` alone is in the mask (R299 to R306). -/
theorem bitStore_of_setBit (hop : ∀ z, (i z).opcode = opcode) (hexec : ∀ z s, exec (i z) s = setBit k z s)
    (hmask : 1#8 <<< k = mask) : BitStore i opcode (fun m => m ||| mask) :=
  fun z => ⟨hop z, fun s => by rw [hexec, setBit, modifyZeroPage_eq, hmask]; rfl⟩

end

/-! The statements: each instruction is one of its class. -/

seal withRead in
/-- Settles O20: every form is of the read class, with the combination of A and M and its N and Z as the effect. -/
theorem logic : Obligations.Logic := by
  unfold Obligations.Logic AluForms
  and_intros
  all_goals exact fun _ => readForm_of_withRead rfl (fun _ => rfl) fun _ _ => by simp only [setNZ_eq_nz]

seal withRead in
/-- Settles O21: every form is of the read class; the immediate form sets the flags of `testFlags`, the memory forms those of `bitFlags`. -/
theorem bitTest : Obligations.BitTest := by
  refine ⟨?imm, ?_, ?_, ?_, ?_⟩
  case imm => exact fun _ => readForm_of_withRead rfl (fun _ => rfl) fun _ _ => by simp only [testFlags_eq]
  all_goals exact fun _ => readForm_of_withRead rfl (fun _ => rfl) fun _ _ => by simp only [bitFlags_eq]

seal withModify in
/-- Settles O22: every form is of the read-modify-write class, and its result depends on the byte, on A and on P only. -/
theorem testAndModify : Obligations.TestAndModify := by
  refine ⟨?tsbZp, ?tsbAbs, ?trbZp, ?trbAbs⟩
  case tsbZp | tsbAbs =>
    exact fun _ => modifyForm_of_withModify rfl (fun _ => rfl) fun _ _ _ h => by rw [h.a_eq, h.p_eq, tsbResult_eq]
  case trbZp | trbAbs =>
    exact fun _ => modifyForm_of_withModify rfl (fun _ => rfl) fun _ _ _ h => by rw [h.a_eq, h.p_eq, trbResult_eq]

seal resetBit in
/-- Settles O24: RMBn is the change of bit n, whose mask has every other bit. -/
theorem resetMemoryBit : Obligations.ResetMemoryBit := by
  unfold Obligations.ResetMemoryBit
  and_intros
  all_goals exact bitStore_of_resetBit (fun _ => rfl) (fun _ _ => rfl) rfl

seal setBit in
/-- Settles O25: SMBn is the change of bit n, whose mask has no other bit. -/
theorem setMemoryBit : Obligations.SetMemoryBit := by
  unfold Obligations.SetMemoryBit
  and_intros
  all_goals exact bitStore_of_setBit (fun _ => rfl) (fun _ _ => rfl) rfl

end Sys2Proof.Machine

-- A namespace of its own: `shifts` is a definition of the claims too.
namespace Sys2Proof.Machine.Shift

open Sys2Proof.Claims

seal withModify in
/-- Settles O23: every form is of the read-modify-write class, and its result is that of the shift on P and the byte. -/
theorem shifts : Obligations.Shifts := by
  refine ⟨?aslAcc, ?aslZp, ?aslZpx, ?aslAbs, ?aslAbx,
    ?lsrAcc, ?lsrZp, ?lsrZpx, ?lsrAbs, ?lsrAbx,
    ?rolAcc, ?rolZp, ?rolZpx, ?rolAbs, ?rolAbx,
    ?rorAcc, ?rorZp, ?rorZpx, ?rorAbs, ?rorAbx⟩
  case aslAcc => exact accForm_of_withModify rfl (fun _ => rfl) fun s => aslResult_eq s.p
  case aslZp | aslZpx | aslAbs | aslAbx => exact fun _ => modifyForm_of_statusResult rfl (fun _ => rfl) fun s => aslResult_eq s.p
  case lsrAcc => exact accForm_of_withModify rfl (fun _ => rfl) fun s => lsrResult_eq s.p
  case lsrZp | lsrZpx | lsrAbs | lsrAbx => exact fun _ => modifyForm_of_statusResult rfl (fun _ => rfl) fun s => lsrResult_eq s.p
  case rolAcc => exact accForm_of_withModify rfl (fun _ => rfl) fun s => rolResult_eq s.p
  case rolZp | rolZpx | rolAbs | rolAbx => exact fun _ => modifyForm_of_statusResult rfl (fun _ => rfl) fun s => rolResult_eq s.p
  case rorAcc => exact accForm_of_withModify rfl (fun _ => rfl) fun s => rorResult_eq s.p
  case rorZp | rorZpx | rorAbs | rorAbx => exact fun _ => modifyForm_of_statusResult rfl (fun _ => rfl) fun s => rorResult_eq s.p

end Sys2Proof.Machine.Shift
end

section
/-! Jumps, calls, returns, branches and BRK: 45 R340 to R377 (O26 to O33). -/

namespace Sys2Proof.Machine

open Sys2Proof.Claims

/-! The terms of the claims and of the model. -/

/-- Two bytes as a word, in the model and in the claims (R63). -/
theorem joinBytes_eq_word (lo hi : Byte) : joinBytes lo hi = word lo hi := by
  have hlo := lo.isLt
  have hhi := hi.isLt
  apply BitVec.eq_of_toNat_eq
  rw [joinBytes, word, BitVec.toNat_append, ← Nat.shiftLeft_add_eq_or_of_lt hlo, Nat.shiftLeft_eq, BitVec.toNat_ofNat]
  omega

theorem hiByte_eq_highOf (w : Word) : hiByte w = highOf w := by
  apply BitVec.eq_of_toNat_eq
  rw [hiByte, highOf, BitVec.toNat_setWidth, BitVec.toNat_ushiftRight, Nat.shiftRight_eq_div_pow, BitVec.toNat_ofNat]

theorem loByte_eq_lowOf (w : Word) : loByte w = lowOf w := by
  rw [loByte, lowOf, BitVec.ofNat_toNat]

/-- A word is made of its two bytes. -/
theorem word_lowOf_highOf (w : Word) : word (lowOf w) (highOf w) = w := by
  rw [← joinBytes_eq_word, ← loByte_eq_lowOf, ← hiByte_eq_highOf, joinBytes_split]

/-- An indexed address is the sum modulo 65,536 (R186, R342). -/
theorem ofNat_toNat_add_index (w : Word) (x : Byte) : BitVec.ofNat 16 (w.toNat + x.toNat) = w + zext16 x := by
  rw [BitVec.ofNat_add, BitVec.ofNat_toNat, BitVec.ofNat_toNat, BitVec.setWidth_eq, zext16]

/-! Jumps. -/

/-- When both bytes of the pointer are read, the jump goes where they point (R186). -/
theorem jumpThrough_of_reads {p : Word} {lo hi : Byte} {s s1 s2 : State} (hlo : read p s = .ok lo s1)
    (hhi : read (p + 1) s1 = .ok hi s2) : jumpThrough p s = .next ({ s2 with pc := word lo hi }.tick 6) := by
  rw [jumpThrough_eq, hlo, Res.bind_ok, hhi, Res.bind_ok, Res.outcome_ok, joinBytes_eq_word]

/-- Settles O26: JMP absolute makes no access, and the other two jump through a pointer. -/
theorem jumps : Obligations.Jumps := by
  refine ⟨fun w => ?abs, fun w s lo hi s1 s2 hlo hhi => ?ind, fun w p s lo hi s1 s2 hp hlo hhi => ?iax, fun w => ⟨rfl, rfl⟩⟩
  case abs => exact plainForm_of_withNone rfl (fun _ => rfl) fun _ => rfl
  case ind => exact jumpThrough_of_reads hlo hhi
  case iax =>
    rw [ofNat_toNat_add_index] at hp
    subst hp
    exact jumpThrough_of_reads hlo hhi

/-! Branches. -/

theorem branchIf_eq_branchEffect (base : Nat) (taken : Bool) (rel : Byte) (s : State) :
    branchIf base taken rel s = branchEffect base taken rel s := by
  rw [branchIf, branchEffect, target_eq, pageDiff_eq]

/-- BRA (R354): the model's target and page test are those of the claims. -/
theorem exec_bra (rel : Byte) (s : State) :
    exec (.bra rel) s = .next ({ s with pc := target s.pc rel }.tick (3 + pageDiff (target s.pc rel) s.pc)) := by
  rw [target_eq, pageDiff_eq]
  rfl

seal branchIf in
/-- Settles O29: a conditional branch tests a flag or its negation. -/
theorem branches : Obligations.Branches := by
  intro r s
  simp only [← branchIf_eq_branchEffect, Bool.decide_eq_false]
  exact ⟨rfl, rfl, rfl, rfl, rfl, rfl, rfl, rfl, exec_bra r s, rfl⟩

theorem bitBranch_of_branchOnBit {f : Byte → Byte → Instr} {opcode : Byte} {k : Nat} {want : Bool}
    (hop : ∀ z rel, (f z rel).opcode = opcode) (hexec : ∀ z rel s, exec (f z rel) s = branchOnBit k want z rel s) :
    BitBranch f opcode k want :=
  fun z rel => ⟨hop z rel, fun s => by rw [hexec, branchOnBit_eq, branchIf_eq_branchEffect]; rfl⟩

seal branchOnBit in
/-- Settles O30: BBRn branches when bit n is clear. -/
theorem branchOnBitReset : Obligations.BranchOnBitReset := by
  unfold Obligations.BranchOnBitReset
  and_intros
  all_goals exact bitBranch_of_branchOnBit (fun _ _ => rfl) fun _ _ _ => rfl

seal branchOnBit in
/-- Settles O31: BBSn branches when bit n is set. -/
theorem branchOnBitSet : Obligations.BranchOnBitSet := by
  unfold Obligations.BranchOnBitSet
  and_intros
  all_goals exact bitBranch_of_branchOnBit (fun _ _ => rfl) fun _ _ _ => rfl

/-! Pushed bytes: they can be read back, and nothing outside the stack page reads differently. -/

theorem mem_pushCells {b b' : Bank} {n j : Nat} {sp : Byte} :
    (b', j) ∈ pushCells b n sp ↔ ∃ k < n, b = b' ∧ 0x100 + (sp - BitVec.ofNat 8 k).toNat = j := by
  simp only [pushCells, List.mem_map, List.mem_range, Prod.mk.injEq]

/-- Fewer than 256 pushes do not come round to the cell above the first of them. -/
theorem not_mem_pushCells_pred {b : Bank} {n : Nat} {sp : Byte} (hn : n < 256) : (b, 0x100 + sp.toNat) ∉ pushCells b n (sp - 1) := by
  rw [mem_pushCells]
  rintro ⟨k, hk, -, h⟩
  bv_omega

/-- The `k`-th byte pushed stands at the stack pointer less `k`, if the pushes do not come round (R230, R231). -/
theorem byteAt_pushBytes_get {b : Bank} {vs : List Byte} {sp : Byte} {r : Ram} {k : Nat} {v : Byte} (hr : (r.bank b).wf = true)
    (hlen : vs.length ≤ 256) (hk : vs[k]? = some v) : (pushBytes b vs sp r).byteAt b (0x100 + (sp - BitVec.ofNat 8 k).toNat) = v := by
  induction vs generalizing sp r k with
  | nil => cases hk
  | cons w vs ih =>
    rw [List.length_cons] at hlen
    cases k with
    | zero =>
      cases hk
      rw [BitVec.sub_zero, pushBytes, byteAt_pushBytes (not_mem_pushCells_pred hlen), Ram.byteAt_store_same r b _ _ hr]
    | succ k =>
      have hwf : ((r.store b (0x100 + sp.toNat) w).bank b).wf = true := by
        rw [Ram.store, Ram.bank_setBank_same]
        exact Memory.wf_store _ w hr
      have hsp : sp - BitVec.ofNat 8 (k + 1) = sp - 1 - BitVec.ofNat 8 k := by bv_omega
      rw [hsp]
      exact ih hwf (Nat.le_of_succ_le hlen) hk

/-- A pushed byte on the stack page, by where it stands. -/
theorem stackByte_pushed {vs : List Byte} {s : State} {sp : Byte} {v : Byte} (hs : s.Inv) (k : Nat) (hk : vs[k]? = some v)
    (hsp : sp = s.sp - BitVec.ofNat 8 k) (hlen : vs.length ≤ 256 := by simp) : stackByte sp (pushed vs s) = v :=
  hsp ▸ byteAt_pushBytes_get (Memory.wf_of_fits (hs.ram_fits _)) hlen hk

theorem zeroBank_base (sw : Switches) : (zeroBank sw).base = 0 := by
  unfold zeroBank
  split <;> rfl

/-- A push changes no byte read from above the stack page. -/
theorem peek_pushed {a : Word} (ha : 0x200 ≤ a.toNat) (vs : List Byte) (s : State) : peek a (pushed vs s) = peek a s := by
  refine peek_withRam fun b hsource => byteAt_pushBytes fun hmem => ?_
  obtain ⟨k, -, rfl, hindex⟩ := mem_pushCells.mp hmem
  have hbase := source_base hsource
  rw [zeroBank_base] at hbase
  have hbyte := (s.sp - BitVec.ofNat 8 k).isLt
  omega

/-! JSR and RTS. -/

/-- The state after JSR, without its cost (R343). -/
def called (w : Word) (s : State) : State :=
  { pushed [highOf (s.pc - 1), lowOf (s.pc - 1)] s with sp := s.sp - 2, pc := w }

/-- The state after RTS, without its cost (R344). -/
def returned (s : State) : State :=
  { s with sp := s.sp + 2, pc := word (stackByte (s.sp + 1) s) (stackByte (s.sp + 2) s) + 1 }

theorem exec_jsr (w : Word) (s : State) : exec (.jsr w) s = .next ((called w s).tick 6) := by
  change execJsr w s = _
  rw [execJsr, pushWord_eq, Res.bind_ok, Res.outcome_ok, hiByte_eq_highOf, loByte_eq_lowOf, BitVec.sub_sub]
  rfl

theorem exec_rts (s : State) : exec .rts s = .next ((returned s).tick 6) := by
  change execRts s = _
  rw [execRts, pullWord_eq, Res.bind_ok, Res.outcome_ok, joinBytes_eq_word, BitVec.add_assoc]
  rfl

/-- What JSR pushed is what RTS pulls (R344). -/
theorem returned_called {s : State} (hs : s.Inv) (w : Word) (n : Nat) :
    (returned ((called w s).tick n)).pc = s.pc ∧ (returned ((called w s).tick n)).sp = s.sp := by
  have hlow : stackByte (s.sp - 2 + 1) ((called w s).tick n) = lowOf (s.pc - 1) := stackByte_pushed hs 1 rfl (by bv_omega)
  have hhigh : stackByte (s.sp - 2 + 2) ((called w s).tick n) = highOf (s.pc - 1) := stackByte_pushed hs 0 rfl (by bv_omega)
  refine ⟨?pc, BitVec.sub_add_cancel s.sp 2⟩
  calc (returned ((called w s).tick n)).pc
    _ = word (stackByte (s.sp - 2 + 1) ((called w s).tick n)) (stackByte (s.sp - 2 + 2) ((called w s).tick n)) + 1 := rfl
    _ = word (lowOf (s.pc - 1)) (highOf (s.pc - 1)) + 1 := by rw [hlow, hhigh]
    _ = s.pc := by rw [word_lowOf_highOf, BitVec.sub_add_cancel]

/-- Settles O27: the effects are `called` and `returned`, and the second takes back the first. -/
theorem callsAndReturns : Obligations.CallsAndReturns :=
  ⟨fun w => ⟨rfl, exec_jsr w⟩, ⟨rfl, exec_rts⟩, fun w s hs => ⟨_, _, exec_jsr w s, exec_rts _, returned_called hs w 6⟩⟩

/-! RTI, and the push sequence that BRK and IRQ share. -/

/-- The state after RTI, without its cost (R345). -/
def resumed (s : State) : State :=
  { s with
    sp := s.sp + 3
    p := Status.unpack (stackByte (s.sp + 1) s)
    pc := word (stackByte (s.sp + 2) s) (stackByte (s.sp + 3) s) }

theorem exec_rti (s : State) : exec .rti s = .next ((resumed s).tick 6) := by
  have h2 : s.sp + 1 + 1 = s.sp + 2 := BitVec.add_assoc ..
  have h3 : s.sp + 2 + 1 = s.sp + 3 := BitVec.add_assoc ..
  change execRti s = _
  rw [execRti, returnFromHandler_eq, Res.bind_ok, Res.outcome_ok, h2, h3, joinBytes_eq_word]
  rfl

/-- Settles O28: the pulled byte is the byte form of the new P, with U as 1. -/
theorem returnFromInterrupt : Obligations.ReturnFromInterrupt :=
  ⟨rfl, fun s => ⟨_, exec_rti s, by rw [← pack_eq_statusByteOf, pack_unpack]⟩⟩

/-- The bytes of the push sequence, the first pushed first (R376, R434). -/
def entryBytes (ret : Word) (brk : Bool) (s : State) : List Byte := [highOf ret, lowOf ret, statusByteOf { s.p with b := brk }]

@[simp] theorem length_entryBytes (ret : Word) (brk : Bool) (s : State) : (entryBytes ret brk s).length = 3 := rfl

theorem entered_ram (vector ret : Word) (brk : Bool) (s : State) :
    (entered vector ret brk s).ram = (pushed (entryBytes ret brk s) s).ram := by
  have h2 : s.sp - 1 - 1 = s.sp - 2 := BitVec.sub_sub ..
  change pushed3 s _ _ _ = pushBytes _ [_, _, _] _ _
  rw [pushed3, pushBytes, pushBytes, pushBytes, pushBytes, h2]

/-- The shared entry always completes; its vector reads after the pushes as before them, since it is no part of the stack page (R432). -/
theorem enterHandler_entered (vector : Word) (brk : Bool) (s : State)
    (h1 : quiet vector = true ∧ 0x200 ≤ vector.toNat := by decide)
    (h2 : quiet (vector + 1) = true ∧ 0x200 ≤ (vector + 1).toNat := by decide) :
    enterHandler vector brk s = .ok () (entered vector s.pc brk s) := by
  obtain ⟨r, hr, he⟩ := enterHandler_eq vector brk s h1.1 h2.1
  have hsp : s.sp - 1 - 1 - 1 = s.sp - 3 := by bv_omega
  have hpushed : { s with ram := r } = pushed (entryBytes s.pc brk s) s := by
    rw [hr, hiByte_eq_highOf, loByte_eq_lowOf, pack_eq_statusByteOf]
    rfl
  have hram : r = (entered vector s.pc brk s).ram := by rw [entered_ram, ← hpushed]
  rw [he, hpushed, peek_pushed h1.2, peek_pushed h2.2, joinBytes_eq_word, hsp, hram]
  rfl

/-- What the shared entry leaves above the stack pointer: P, then the low and the high byte of PC. -/
theorem stackByte_entered {s : State} (hs : s.Inv) (vector ret : Word) (brk : Bool) :
    stackByte (s.sp - 3 + 1) (entered vector ret brk s) = statusByteOf { s.p with b := brk } ∧
      stackByte (s.sp - 3 + 2) (entered vector ret brk s) = lowOf ret ∧
      stackByte (s.sp - 3 + 3) (entered vector ret brk s) = highOf ret := by
  have hstack : ∀ sp, stackByte sp (entered vector ret brk s) = stackByte sp (pushed (entryBytes ret brk s) s) := fun sp =>
    congrArg (·.byteAt (zeroBank s.sw) (0x100 + sp.toNat)) (entered_ram vector ret brk s)
  rw [hstack, hstack, hstack]
  exact ⟨stackByte_pushed hs 2 rfl (by bv_omega), stackByte_pushed hs 1 rfl (by bv_omega), stackByte_pushed hs 0 rfl (by bv_omega)⟩

/-! BRK and IRQ. -/

theorem exec_brk (s : State) : exec .brk s = .next ((entered 0xFFFE (s.pc + 1) true s).tick 7) := by
  change execBrk s = _
  rw [execBrk, enterHandler_entered 0xFFFE, Res.bind_ok, Res.outcome_ok]
  rfl

/-- An IRQ that is taken (R434, R435). -/
theorem irqCall_of_taken {s : State} (hmode : s.mode ≠ .stopped) (hi : s.p.i = false) :
    irqCall s = .next { (entered 0xFFFE s.pc false s).tick Config.intCycles with mode := .running } := by
  rw [irqCall, if_neg hmode, if_neg (by rw [hi]; decide), interruptEntry, enterHandler_entered 0xFFFE, Res.bind_ok, Res.outcome_ok]

/-- Settles O32: BRK is the shared entry with the address of BRK + 2. The name ends in `_` because `break` is a keyword. -/
theorem break_ : Obligations.Break :=
  ⟨rfl, exec_brk⟩

theorem statusByteOf_bit4 : ∀ p : Status, (statusByteOf p).getLsbD 4 = p.b := forall_status.2 (by decide)

theorem unpack_statusByteOf : ∀ p : Status, Status.unpack (statusByteOf p) = p := forall_status.2 (by decide)

/-- What the shared entry pushed is what RTI pulls (R345, R377). -/
theorem resumed_entered {s : State} (hs : s.Inv) (vector ret : Word) (brk : Bool) (n : Nat) :
    (resumed ((entered vector ret brk s).tick n)).pc = ret ∧ (resumed ((entered vector ret brk s).tick n)).sp = s.sp ∧
      (resumed ((entered vector ret brk s).tick n)).p = { s.p with b := brk } := by
  obtain ⟨hstatus, hlow, hhigh⟩ := stackByte_entered hs vector ret brk
  refine ⟨?pc, BitVec.sub_add_cancel s.sp 3, ?p⟩
  case pc =>
    calc (resumed ((entered vector ret brk s).tick n)).pc
      _ = word (stackByte (s.sp - 3 + 2) (entered vector ret brk s)) (stackByte (s.sp - 3 + 3) (entered vector ret brk s)) := rfl
      _ = ret := by rw [hlow, hhigh, word_lowOf_highOf]
  case p => exact (congrArg Status.unpack hstatus).trans (unpack_statusByteOf _)

/-- Bit 4 of the pushed P is B as the entry set it (R377). -/
theorem entered_status_bit4 {s : State} (hs : s.Inv) (vector ret : Word) (brk : Bool) :
    (stackByte (s.sp - 3 + 1) (entered vector ret brk s)).getLsbD 4 = brk := by
  obtain ⟨hstatus, -, -⟩ := stackByte_entered hs vector ret brk
  rw [hstatus, statusByteOf_bit4]

/-- Settles O33: RTI takes back what BRK pushed, and the two entries differ in B. -/
theorem breakThenReturn : Obligations.BreakThenReturn :=
  fun s hs =>
    ⟨⟨_, _, exec_brk s, entered_status_bit4 hs 0xFFFE (s.pc + 1) true, exec_rti _, resumed_entered hs 0xFFFE (s.pc + 1) true 7⟩,
      fun hmode hi => ⟨_, irqCall_of_taken hmode hi, entered_status_bit4 hs 0xFFFE s.pc false⟩⟩

end Sys2Proof.Machine
end

section
/-! Flags, no-operations, WAI and STP, and what ends the two idle modes: 46 R400 to R415, 60 R434 to R449, R500 (O34 to O36). -/

namespace Sys2Proof.Machine

open Sys2Proof.Claims

seal withNone in
/-- Settles O34: each makes no access and sets its one flag. -/
theorem flagInstructions : Obligations.FlagInstructions := by
  refine ⟨?clc, ?sec, ?cli, ?sei, ?cld, ?sed, ?clv⟩
  all_goals exact plainForm_of_withNone rfl (fun _ => rfl) fun _ => rfl

/-! No-operations. -/

/-- Every instruction of the row is a no-operation of this length and cost. -/
def NoOperationRow (length cost : Nat) (row : RowEntry) : Prop :=
  ∀ i, row.Builds i → (encode i).length = length ∧ ∀ s, exec i s = .next (s.tick cost)

theorem noOperationRow_one {n : Nat} {i : Instr} (hlength : (encode i).length = 1) (hexec : ∀ s, exec i s = .next (s.tick n)) :
    NoOperationRow 1 n (.one i)
  | _, .one _ => ⟨hlength, hexec⟩

theorem noOperationRow_two {n : Nat} {f : Byte → Instr} (hlength : ∀ b, (encode (f b)).length = 2)
    (hexec : ∀ b s, exec (f b) s = .next (s.tick n)) : NoOperationRow 2 n (.two f)
  | _, .two _ b => ⟨hlength b, hexec b⟩

theorem noOperationRow_wide {n : Nat} {f : Word → Instr} (hlength : ∀ w, (encode (f w)).length = 3)
    (hexec : ∀ w s, exec (f w) s = .next (s.tick n)) : NoOperationRow 3 n (.wide f)
  | _, .wide _ w => ⟨hlength w, hexec w⟩

/-- An instruction stands in the row of its own opcode byte, so it is what that row says (R144). -/
theorem noOperation_of_row {l n : Nat} {i : Instr} {op : Byte} (hop : i.opcode = op) (hrow : NoOperationRow l n (entryOf op)) (s : State) :
    (encode i).length = l ∧ exec i s = .next (s.tick n) :=
  have ⟨hlength, hexec⟩ := hrow i (hop ▸ entryOf_opcode_builds i)
  ⟨hlength, hexec s⟩

/-- The same of a list of opcode bytes whose rows all hold such no-operations. -/
theorem noOperation_of_rows {l n : Nat} {i : Instr} {ops : List Byte} (hop : i.opcode ∈ ops)
    (hrows : ∀ op ∈ ops, NoOperationRow l n (entryOf op)) (s : State) : (encode i).length = l ∧ exec i s = .next (s.tick n) :=
  noOperation_of_row rfl (hrows _ hop) s

/-- Settles O35: the row of each opcode byte holds a no-operation, whatever its operand bytes. -/
theorem noOperations : Obligations.NoOperations := by
  intro i s
  refine ⟨fun h => noOperation_of_rows h ?one s, fun h => noOperation_of_rows h ?immediate s, fun h => noOperation_of_row h ?zeroPage s,
    fun h => noOperation_of_rows h ?indexed s, fun h => noOperation_of_row h ?long s, fun h => noOperation_of_rows h ?absolute s,
    fun h => noOperation_of_row h ?nop s⟩
  case one =>
    simp only [List.forall_mem_append, List.forall_mem_cons, List.not_mem_nil, false_implies, implies_true, and_true]
    and_intros
    all_goals exact noOperationRow_one rfl fun _ => rfl
  case immediate | indexed =>
    simp only [List.forall_mem_cons, List.not_mem_nil, false_implies, implies_true, and_true]
    and_intros
    all_goals exact noOperationRow_two (fun _ => rfl) fun _ _ => rfl
  case zeroPage => exact noOperationRow_two (fun _ => rfl) fun _ _ => rfl
  case absolute =>
    simp only [List.forall_mem_cons, List.not_mem_nil, false_implies, implies_true, and_true]
    and_intros
    all_goals exact noOperationRow_wide (fun _ => rfl) fun _ _ => rfl
  case long => exact noOperationRow_wide (fun _ => rfl) fun _ _ => rfl
  case nop => exact noOperationRow_one rfl fun _ => rfl

/-! The idle modes: what every call does while the machine waits or is stopped. -/

theorem irqCall_stopped {s : State} (h : s.mode = .stopped) : irqCall s = .next s := if_pos h

theorem nmiCall_stopped {s : State} (h : s.mode = .stopped) : nmiCall s = .next s := if_pos h

theorem executeCall_stopped {s : State} (h : s.mode = .stopped) (n : Nat) : executeCall n s = .next s := if_pos h

/-- A masked IRQ does nothing, whatever the mode (R435). -/
theorem irqCall_masked {s : State} (hi : s.p.i = true) : irqCall s = .next s := by
  rw [irqCall, if_pos hi, ite_self]

/-- An NMI is taken whatever I holds (R436). -/
theorem nmiCall_taken {s : State} (hmode : s.mode ≠ .stopped) :
    nmiCall s = .next { (entered 0xFFFA s.pc false s).tick Config.intCycles with mode := .running } := by
  rw [nmiCall, if_neg hmode, interruptEntry, enterHandler_entered 0xFFFA, Res.bind_ok, Res.outcome_ok]

/-- The reset vector is read without side effects (R500). -/
theorem resetCall_eq (s : State) :
    resetCall s = .next ({ s with
      pc := word (peek 0xFFFC s) (peek 0xFFFD s), sp := 0xFF, p := { s.p with i := true }, mode := .running }.tick Config.resetCycles) := by
  rw [resetCall, read16_quiet (by decide) (by decide), Res.bind_ok, Res.outcome_ok, joinBytes_eq_word]

theorem ne_stopped_of_waiting {s : State} (h : s.mode = .waiting) : s.mode ≠ .stopped := by
  rw [h]
  decide

/-- Waiting counts the whole budget in the first turn of the loop (R443). -/
theorem executeCall_waiting {s : State} (h : s.mode = .waiting) (n : Nat) :
    executeCall n s = .next { s with ticks := s.ticks + BitVec.ofNat 64 n } := by
  rw [executeCall, if_neg (ne_stopped_of_waiting h)]
  cases n with
  | zero => simp only [executeLoop, BitVec.add_zero]
  | succ n =>
    have hticks : BitVec.ofNat 64 (s.ticks.toNat + (n + 1)) = s.ticks + BitVec.ofNat 64 (n + 1) := by
      rw [BitVec.ofNat_add, BitVec.ofNat_toNat, BitVec.setWidth_eq]
    rw [executeLoop, if_pos (by omega), h, hticks]

/-! The calls that set a part of the machine for the host. -/

/-- An image load changes the disk only (R470). -/
theorem loadImage_same (d : DriveId) (file : Option (List Byte)) (s : State) :
    loadImage d file s = { s with disk := (loadImage d file s).disk } := by
  unfold loadImage
  split
  · split <;> rfl
  · rfl

/-- The calls that neither run nor interrupt nor overwrite the machine (R448, R468 to R470). -/
def HostCall.setsAtMostOnePart : HostCall → Bool
  | .pressKey _ | .setReadonly _ _ | .setSingleStep _ | .loadImage _ _ | .saveImage _ | .readState => true
  | .reset | .irq | .nmi | .execute _ | .writeState _ => false

/-- In the idle modes these calls leave the processor and the cycle counter alone; the mode setter does so by log 17. -/
theorem hostCall_idle {c : HostCall} {s t : State} (hc : c.setsAtMostOnePart = true) (hmode : s.mode = .waiting ∨ s.mode = .stopped)
    (h : hostCall c s = .next t) : t.cpu = s.cpu ∧ t.ticks = s.ticks := by
  cases c with
  | pressKey | setReadonly | saveImage | readState =>
    cases h
    exact ⟨rfl, rfl⟩
  | setSingleStep on =>
    rw [hostCall, setSingleStep_idle on hmode] at h
    cases h
    exact ⟨rfl, rfl⟩
  | loadImage d file =>
    rw [hostCall, loadImage_same] at h
    cases h
    exact ⟨rfl, rfl⟩
  | reset | irq | nmi | execute | writeState => cases hc

/-- Stopped ends only on reset (R444, R449). -/
theorem hostCall_stopped {c : HostCall} {s t : State} (hmode : s.mode = .stopped) (h : hostCall c s = .next t) :
    (t.mode = .stopped ∧ t.ticks = s.ticks ∧ t.pc = s.pc) ∨ c = .reset ∨ ∃ u, c = .writeState u := by
  cases c with
  | reset => exact .inr (.inl rfl)
  | writeState u => exact .inr (.inr ⟨u, rfl⟩)
  | irq =>
    cases (irqCall_stopped hmode).symm.trans h
    exact .inl ⟨hmode, rfl, rfl⟩
  | nmi =>
    cases (nmiCall_stopped hmode).symm.trans h
    exact .inl ⟨hmode, rfl, rfl⟩
  | execute n =>
    cases (executeCall_stopped hmode n).symm.trans h
    exact .inl ⟨hmode, rfl, rfl⟩
  | pressKey | setReadonly | setSingleStep | loadImage | saveImage | readState =>
    obtain ⟨hcpu, hticks⟩ := hostCall_idle rfl (.inr hmode) h
    exact .inl ⟨(congrArg Processor.mode hcpu).trans hmode, hticks, congrArg Processor.pc hcpu⟩

/-- Waiting ends only on reset, NMI or a taken IRQ (R443, R449). -/
theorem hostCall_waiting {c : HostCall} {s t : State} (hmode : s.mode = .waiting) (h : hostCall c s = .next t) :
    t.mode = .waiting ∨ c = .reset ∨ c = .nmi ∨ (c = .irq ∧ s.p.i = false) ∨ ∃ u, c = .writeState u := by
  cases c with
  | reset => exact .inr (.inl rfl)
  | nmi => exact .inr (.inr (.inl rfl))
  | writeState u => exact .inr (.inr (.inr (.inr ⟨u, rfl⟩)))
  | irq =>
    cases hi : s.p.i with
    | false => exact .inr (.inr (.inr (.inl ⟨rfl, rfl⟩)))
    | true =>
      cases (irqCall_masked hi).symm.trans h
      exact .inl hmode
  | execute n =>
    cases (executeCall_waiting hmode n).symm.trans h
    exact .inl hmode
  | pressKey | setReadonly | setSingleStep | loadImage | saveImage | readState =>
    obtain ⟨hcpu, -⟩ := hostCall_idle rfl (.inl hmode) h
    exact .inl ((congrArg Processor.mode hcpu).trans hmode)

seal withNone in
/-- Settles O36: WAI and STP set the mode only; the rest is what each call does in the mode they set. -/
theorem waitAndStop : Obligations.WaitAndStop := by
  refine ⟨?wai, ?stp, ?budget, ?masked, ?taken, ?nmi, ?stopped, ?reset, ?keepsStopped, ?keepsWaiting⟩
  case wai | stp => exact plainForm_of_withNone rfl (fun _ => rfl) fun _ => rfl
  case budget => exact fun n _ hmode => executeCall_waiting hmode n
  case masked => exact fun _ _ => irqCall_masked
  case taken =>
    intro s t hmode hi h
    cases (irqCall_of_taken (ne_stopped_of_waiting hmode) hi).symm.trans h
    rfl
  case nmi =>
    intro s t hmode h
    cases (nmiCall_taken (ne_stopped_of_waiting hmode)).symm.trans h
    rfl
  case stopped => exact fun _ hmode => ⟨irqCall_stopped hmode, nmiCall_stopped hmode, executeCall_stopped hmode⟩
  case reset =>
    intro s t h
    cases (resetCall_eq s).symm.trans h
    rfl
  case keepsStopped => exact fun _ _ _ => hostCall_stopped
  case keepsWaiting => exact fun _ _ _ => hostCall_waiting

end Sys2Proof.Machine
end

section
/-! The budget of `execute(n)`, and that a step is `execute(1)`: 60 R440 to R444, 70 R522 (O6, O7). -/

namespace Sys2Proof.Machine

open Sys2Proof.Claims

/-! One step, by the mode (R441 to R444). -/

theorem step_waiting {s : State} (h : s.mode = .waiting) : step s = .next { s with ticks := s.ticks + 1 } :=
  show step s = .next (idle s) by simp only [step, h]

theorem step_stopped {s : State} (h : s.mode = .stopped) : step s = .next s := by
  simp only [step, h]

/-! One turn of the loop (R440). -/

section
variable {fuel target : Nat} {s t : State}

/-- The budget is met. -/
theorem executeLoop_met (h : target ≤ s.ticks.toNat) : executeLoop fuel target s = .next s := by
  cases fuel with
  | zero => rfl
  | succ fuel => rw [executeLoop, if_neg (Nat.not_lt.mpr h)]

theorem executeLoop_stopped (h : s.mode = .stopped) : executeLoop fuel target s = .next s := by
  cases fuel with
  | zero => rfl
  | succ fuel => simp only [executeLoop, h, ite_self]

/-- Waiting takes the counter to the target (R443). -/
theorem executeLoop_waiting (h : s.mode = .waiting) (hlt : s.ticks.toNat < target) :
    executeLoop (fuel + 1) target s = .next { s with ticks := BitVec.ofNat 64 target } := by
  simp only [executeLoop, if_pos hlt, h]

theorem executeLoop_of_next (h : runs s) (hlt : s.ticks.toNat < target) (hstep : step s = .next t) :
    executeLoop (fuel + 1) target s = executeLoop fuel target t := by
  rw [step_of_runs h] at hstep
  obtain hmode | hmode := h <;> simp only [executeLoop, if_pos hlt, hmode, hstep]

/-- A step that answers no next state ends the loop. -/
theorem executeLoop_of_not_next (h : runs s) (hlt : s.ticks.toNat < target) (hstep : ∀ t, step s ≠ .next t) :
    executeLoop (fuel + 1) target s = step s := by
  rw [step_of_runs h] at hstep ⊢
  cases hr : runInstruction s with
  | next t => exact absurd hr (hstep t)
  | fault f | refused r => obtain hmode | hmode := h <;> simp only [executeLoop, if_pos hlt, hmode, hr]

end

/-- `execute(n)` is its loop in every mode: Stopped ends the loop at once. -/
theorem executeCall_eq_executeLoop (n : Nat) (s : State) : executeCall n s = executeLoop n (s.ticks.toNat + n) s := by
  by_cases h : s.mode = .stopped
  · rw [executeCall, if_pos h, executeLoop_stopped h]
  · rw [executeCall, if_neg h]

theorem runs_or_idle (s : State) : runs s ∨ s.mode = .waiting ∨ s.mode = .stopped := by
  unfold runs
  cases s.mode <;> decide

theorem step_eq_executeCall_one (s : State) : step s = executeCall 1 s := by
  obtain hruns | hmode | hmode := runs_or_idle s
  · rw [executeCall_eq_executeLoop]
    by_cases hnext : ∃ t, step s = .next t
    · obtain ⟨t, ht⟩ := hnext
      rw [executeLoop_of_next hruns (Nat.lt_succ_self _) ht, ht]
      rfl
    · exact (executeLoop_of_not_next hruns (Nat.lt_succ_self _) fun t ht => hnext ⟨t, ht⟩).symm
  · rw [step_waiting hmode, executeCall_waiting hmode]
    rfl
  · rw [step_stopped hmode, executeCall_stopped hmode]

/-- Settles O6: the loop of one turn makes the step that the mode asks for. -/
theorem stepIsExecuteOne : Obligations.StepIsExecuteOne :=
  ⟨step_eq_executeCall_one, fun _ => step_waiting, fun _ => step_stopped⟩

/-- The loop's rest after one step is a call of its own, with what is left of the budget. -/
theorem executeCall_of_next {n : Nat} {s t : State} (hn : 0 < n) (hruns : runs s) (hw : s.ticks.toNat + n + 8 < 2 ^ 64)
    (hstep : step s = .next t) :
    executeCall n s =
      if s.ticks.toNat + n ≤ t.ticks.toNat then .next t else executeCall (s.ticks.toNat + n - t.ticks.toNat) t := by
  have hrun := (step_of_runs hruns).symm.trans hstep
  obtain ⟨hmin, -⟩ := runInstruction_ticks hrun (by omega)
  obtain ⟨m, rfl⟩ := Nat.exists_eq_add_one.mpr hn
  rw [executeCall_eq_executeLoop, executeLoop_of_next hruns (by omega) hstep]
  split
  case isTrue hmet => exact executeLoop_met hmet
  case isFalse hmet =>
    rw [executeCall_eq_executeLoop, Nat.add_sub_cancel' (by omega)]
    exact executeLoop_fuel hw _ _ t (by omega) (by omega)

/-- With a turn for each cycle left, a loop that answers stopped or reached its target, and the last instruction overshoots it by at most 7:
it began at least 1 before the target and costs at most 8 (R522). -/
theorem executeLoop_ticks {fuel target : Nat} {s t : State} (hw : target + 8 < 2 ^ 64) (hfuel : target ≤ s.ticks.toNat + fuel)
    (hle : s.ticks.toNat ≤ target + 7) (h : executeLoop fuel target s = .next t) :
    (t.mode = .stopped ∨ target ≤ t.ticks.toNat) ∧ t.ticks.toNat ≤ target + 7 := by
  induction fuel generalizing s with
  | zero =>
    cases h
    exact ⟨.inr hfuel, hle⟩
  | succ fuel ih =>
    by_cases hmet : target ≤ s.ticks.toNat
    · cases (executeLoop_met hmet).symm.trans h
      exact ⟨.inr hmet, hle⟩
    have hlt := Nat.not_le.mp hmet
    obtain hruns | hmode | hmode := runs_or_idle s
    · by_cases hnext : ∃ u, step s = .next u
      · obtain ⟨u, hu⟩ := hnext
        obtain ⟨hmin, hmax⟩ := runInstruction_ticks ((step_of_runs hruns).symm.trans hu) (by omega)
        rw [executeLoop_of_next hruns hlt hu] at h
        exact ih (by omega) (by omega) h
      · rw [executeLoop_of_not_next hruns hlt fun u hu => hnext ⟨u, hu⟩] at h
        exact absurd ⟨t, h⟩ hnext
    · cases (executeLoop_waiting hmode hlt).symm.trans h
      have hticks : (BitVec.ofNat 64 target).toNat = target := Nat.mod_eq_of_lt (by omega)
      exact ⟨.inr hticks.ge, hticks.le.trans (Nat.le_add_right target 7)⟩
    · cases (executeLoop_stopped hmode).symm.trans h
      exact ⟨.inl hmode, hle⟩

/-- Settles O7: one turn of the loop, and what holds of the loop from any state on the way to its target. -/
theorem executeMeetsBudget : Obligations.ExecuteMeetsBudget := by
  refine ⟨?empty, ?turn, ?fault, ?answer, ?bound⟩
  case empty => exact fun s => executeCall_eq_executeLoop 0 s
  case turn => exact fun n s t => executeCall_of_next
  case fault =>
    intro n s f hn hruns hstep
    obtain ⟨m, rfl⟩ := Nat.exists_eq_add_one.mpr hn
    rw [executeCall_eq_executeLoop, executeLoop_of_not_next hruns (by omega) (by simp [hstep]), hstep]
  case answer => exact fun n s t => ⟨rfl, rfl⟩
  case bound =>
    intro n s t hw h
    rw [executeCall_eq_executeLoop] at h
    exact executeLoop_ticks hw (Nat.le_refl _) (by omega) h

end Sys2Proof.Machine
end

section
/-! The disk controller: the stepper, the controls of the drives, the shift: 60 R431, R450 to R467 (O52 to O54). -/

namespace Sys2Proof.Machine

open Sys2Proof.Claims

/-! One access of the controller, by its offset (R116, R451). -/

section
variable {a : Word} {off : Nat} {v w : Byte} {s : State} {k : Disk} {f : Fault}

theorem read_disk_of_ok (h : IsEntry a (.disk off)) (hr : diskRead off (floating s) s.disk = .ok (w, k)) :
    read a s = .ok w { s with disk := k } := by
  simp only [read_switch h.1, switchRead, h.2, floatingBus_eq, hr]

theorem write_disk_of_ok (h : IsEntry a (.disk off)) (hw : diskWrite off v s.disk = .ok k) :
    write a v s = .ok () { s with disk := k } := by
  simp only [write_switch h.1, switchWrite, h.2, hw]

theorem read_disk_of_error (h : IsEntry a (.disk off)) (hr : diskRead off (floating s) s.disk = .error f) : read a s = .stop f := by
  simp only [read_switch h.1, switchRead, h.2, floatingBus_eq, hr]

theorem write_disk_of_error (h : IsEntry a (.disk off)) (hw : diskWrite off v s.disk = .error f) : write a v s = .stop f := by
  simp only [write_switch h.1, switchWrite, h.2, hw]

/-- At every offset but 0xC, 0xD and 0xE a read and a write do the same (R451). -/
theorem touches_disk (h : IsEntry a (.disk off)) (hoff : off ≠ 0xC ∧ off ≠ 0xD ∧ off ≠ 0xE) :
    Touches a v s { s with disk := diskTouch off s.disk } := by
  obtain ⟨hC, hD, hE⟩ := hoff
  exact ⟨read_disk_of_ok h (by rw [diskRead, if_neg hC, if_neg hE]), write_disk_of_ok h (by rw [diskWrite, if_neg hC, if_neg hD])⟩

end

/-! The phase switches and the head (R453 to R457). -/

/-- Only the bit of the phase switched differs. -/
theorem getLsbD_setPhase (ph : BitVec 4) {k j : Nat} (on : Bool) (hk : k < 4) (hj : j < 4) :
    (setPhase ph k on).getLsbD j = if j = k then on else ph.getLsbD j := by
  have hbit : (1#4 <<< k).getLsbD j = decide (j = k) := by
    rw [← BitVec.twoPow_eq, BitVec.getLsbD_twoPow, decide_eq_true hk, Bool.true_and, decide_eq_decide]
    exact eq_comm
  cases on
  · simp only [setPhase, Bool.false_eq_true, if_false, BitVec.getLsbD_and, BitVec.getLsbD_not, hbit]
    by_cases hjk : j = k <;> simp [hj, hjk]
  · simp only [setPhase, if_true, BitVec.getLsbD_or, hbit]
    by_cases hjk : j = k <;> simp [hjk]

theorem phaseAccess_of_eq {k : Nat} {on : Bool} {d : Drive} (h : d.ph.getLsbD k = on) : phaseAccess k on d = d := if_pos h

theorem phaseAccess_of_ne {k : Nat} {on : Bool} {d : Drive} (h : d.ph.getLsbD k ≠ on) :
    phaseAccess k on d =
      { d with
        h2 := d.h1, h1 := d.ph, ph := setPhase d.ph k on
        halftrack := if on then headMove d.h1 k d.halftrack else d.halftrack
        track := ((if on then headMove d.h1 k d.halftrack else d.halftrack) + 1) / 2 } := if_neg h

/-- The offsets below 8 switch phase `off / 2` on or off (R454). -/
theorem diskTouch_phase {k : Nat} (on : Bool) (d : Disk) (hk : k < 4) :
    diskTouch (2 * k + bit on) d = d.setCurrent (phaseAccess k on d.current) := by
  have hbit : bit on ≤ 1 ∧ (bit on == 1) = on := by cases on <;> decide
  obtain ⟨hle, hon⟩ := hbit
  have hphase : (2 * k + bit on) / 2 = k := by omega
  have hparity : (2 * k + bit on) % 2 = bit on := by omega
  rw [diskTouch, if_pos (by omega), hphase, hparity, hon]

/-- Settles O52: the access is `phaseAccess` on the current drive. -/
theorem stepper : Obligations.Stepper := by
  intro k on v s hk a d
  have hbit : bit on ≤ 1 := by cases on <;> decide
  have htouch := touches_disk (v := v) (s := s) (entry_disk (2 * k + bit on) (by omega)) (by omega)
  rw [diskTouch_phase on s.disk hk, ← Nat.add_assoc] at htouch
  refine ⟨phaseAccess k on d, htouch.1, htouch.2, phaseAccess_of_eq, fun hne => ?_⟩
  rw [phaseAccess_of_ne hne]
  refine ⟨rfl, rfl, fun j hj => getLsbD_setPhase d.ph on hk hj, ?halftrack, rfl, rfl, rfl, rfl, rfl, rfl⟩
  cases on <;> rfl

/-! The motor, the drive select, the latch and the two modes (R461 to R466). -/

theorem selectDrive_zero (k : Disk) :
    selectDrive .zero k =
      { k with
        cur := .zero, drv0 := { k.drv0 with motor := k.drv0.motor || k.drv1.motor }, drv1 := { k.drv1 with motor := false } } := rfl

theorem selectDrive_one (k : Disk) :
    selectDrive .one k =
      { k with
        cur := .one, drv0 := { k.drv0 with motor := false }, drv1 := { k.drv1 with motor := k.drv0.motor || k.drv1.motor } } := by
  rw [Bool.or_comm]
  rfl

/-- Two changes of the current unit, one after the other. -/
theorem Disk.setCurrent_setCurrent (k : Disk) (d d' : Drive) : (k.setCurrent d).setCurrent d' = k.setCurrent d' := by
  obtain ⟨cur, latch, drv0, drv1⟩ := k
  cases cur <;> rfl

/-- A read of 0xC0EE reports the write protect, leaves write mode and stops the motor (R465). -/
theorem diskRead_protect (fl : Byte) (k : Disk) :
    diskRead 0xE fl k =
      .ok (flagByte k.current.readonly, k.setCurrent { k.current with writeMode := false, motor := false }) := by
  have hdisk : (k.setWriteMode false).setMotor false = k.setCurrent { k.current with writeMode := false, motor := false } := by
    rw [Disk.setMotor, Disk.setWriteMode, Disk.current_setCurrent, Disk.setCurrent_setCurrent]
  rw [← hdisk]
  rfl

/-- Settles O53, offset by offset. -/
theorem driveControls : Obligations.DriveControls := by
  intro v s d touches running
  refine ⟨touches_disk (entry_disk 0x8 (by decide)) (by decide), touches_disk (entry_disk 0x9 (by decide)) (by decide), ?select0,
    ?select1, read_disk_of_ok (entry_disk 0xD (by decide)) rfl, write_disk_of_ok (entry_disk 0xD (by decide)) rfl,
    read_disk_of_ok (entry_disk 0xE (by decide)) (diskRead_protect _ _), write_disk_of_ok (entry_disk 0xE (by decide)) rfl,
    touches_disk (entry_disk 0xF (by decide)) (by decide)⟩
  case select0 => exact touches_disk (entry_disk 0xA (by decide)) (by decide)
  case select1 =>
    have htouch := touches_disk (v := v) (s := s) (entry_disk 0xB (by decide)) (by decide)
    rwa [show diskTouch 0xB s.disk = selectDrive .one s.disk from rfl, selectDrive_one] at htouch

/-! The shift (R431, R463). -/

theorem Disk.setCurrent_withLatch (k : Disk) (d : Drive) (v : Byte) :
    ({ k with latch := v } : Disk).setCurrent d = { k.setCurrent d with latch := v } := by
  obtain ⟨cur, latch, drv0, drv1⟩ := k
  cases cur <;> rfl

section
variable {k : Disk}

theorem shiftLatch_beyond (h : 35 ≤ k.current.track) : shiftLatch k = .error (.diskTrackBeyondImage k.cur k.current.track) := if_pos h

/-- In write mode LATCH goes to the image. -/
theorem shiftLatch_writing (h : k.current.track < 35) (hm : k.current.writeMode = true) :
    shiftLatch k = .ok (k.setCurrent { k.current with
      data := k.current.data.store (k.current.track * 0x1A00 + k.current.nibble) k.latch
      nibble := (k.current.nibble + 1) % 0x1A00 }) := by
  rw [Nat.mul_comm]
  exact (if_neg (Nat.not_le.mpr h)).trans (if_pos hm)

/-- In read mode the image goes to LATCH. -/
theorem shiftLatch_reading (h : k.current.track < 35) (hm : k.current.writeMode = false) :
    shiftLatch k = .ok { k.setCurrent { k.current with nibble := (k.current.nibble + 1) % 0x1A00 } with
      latch := k.current.data.byteAt (k.current.track * 0x1A00 + k.current.nibble) } := by
  rw [Nat.mul_comm, ← Disk.setCurrent_withLatch]
  exact (if_neg (Nat.not_le.mpr h)).trans (if_neg (by rw [hm]; decide))

end

section
variable {v : Byte} {s : State} {k : Disk} {f : Fault}

theorem read_shift_of_ok (h : shiftLatch s.disk = .ok k) : read 0xC0EC s = .ok k.latch { s with disk := k } :=
  read_disk_of_ok (entry_disk 0xC (by decide)) (by simp only [diskRead, if_pos, h])

theorem write_shift_of_ok (h : shiftLatch s.disk = .ok k) : write 0xC0EC v s = .ok () { s with disk := k } :=
  write_disk_of_ok (entry_disk 0xC (by decide)) h

theorem read_shift_of_error (h : shiftLatch s.disk = .error f) : read 0xC0EC s = .stop f :=
  read_disk_of_error (entry_disk 0xC (by decide)) (by simp only [diskRead, if_pos, h])

theorem write_shift_of_error (h : shiftLatch s.disk = .error f) : write 0xC0EC v s = .stop f :=
  write_disk_of_error (entry_disk 0xC (by decide)) h

/-- A load that makes the failing shift stops with its fault. -/
theorem exec_ldaAbs_shift_of_error (h : shiftLatch s.disk = .error f) : exec (.ldaAbs 0xC0EC) s = .fault f := by
  rw [exec, execLdaAbs, opLda, withRead_mem, effAddr, read_shift_of_error h, Res.bind_stop, Res.outcome_stop]

end

end Sys2Proof.Machine

-- A namespace of its own: `shiftLatch` is a definition of the model too.
namespace Sys2Proof.Machine.Controller

open Sys2Proof.Claims

/-- Settles O54: the shift past the image, in write mode and in read mode. -/
theorem shiftLatch : Obligations.ShiftLatch := by
  intro v s d i next
  refine ⟨fun htrack => ?beyond, fun htrack hmode => ?writing, fun htrack hmode => ?reading⟩
  case beyond =>
    have hshift := shiftLatch_beyond htrack
    exact ⟨read_shift_of_error hshift, write_shift_of_error hshift, exec_ldaAbs_shift_of_error hshift⟩
  case writing =>
    have hshift := shiftLatch_writing htrack hmode
    have hread := read_shift_of_ok hshift
    rw [Disk.setCurrent_latch] at hread
    exact ⟨hread, write_shift_of_ok hshift⟩
  case reading =>
    have hshift := shiftLatch_reading htrack hmode
    exact ⟨read_shift_of_ok hshift, write_shift_of_ok hshift⟩

end Sys2Proof.Machine.Controller
end

section
/-! Interrupts and what the host sets, loads and saves: 60 R434 to R436, R448, R449, R468 to R471 (O56, O57). -/

namespace Sys2Proof.Machine

open Sys2Proof.Claims

/-- Settles O56: the mode and I decide whether the call enters, and the entry is the shared one. -/
theorem interrupts : Obligations.Interrupts := fun _ =>
  ⟨fun hmode => ⟨irqCall_stopped hmode, nmiCall_stopped hmode⟩, fun _ => irqCall_masked, irqCall_of_taken, nmiCall_taken⟩

/-! The keyboard (R468). -/

/-- The byte of a keystroke: its code under a set bit 7. -/
theorem keystroke_bits : ∀ key : BitVec 7,
    (key.setWidth 8 ||| 0x80 : Byte).getLsbD 7 = true ∧ (key.setWidth 8 ||| 0x80 : Byte).toNat % 128 = key.toNat := by
  decide

/-! The units and their images (R452, R469, R470). -/

section
variable {d : DriveId} {bytes : List Byte} {s : State}

theorem loadSucceeds_some : loadSucceeds (some bytes) = true ↔ bytes.length = 232960 := beq_iff_eq

theorem loadImage_of_succeeds (h : loadSucceeds (some bytes) = true) :
    loadImage d (some bytes) s = { s with disk := s.disk.setDrive d { s.disk.drive d with data := Memory.ofBytes bytes } } :=
  if_pos (loadSucceeds_some.mp h)

theorem loadImage_of_fails {file : Option (List Byte)} (h : loadSucceeds file = false) : loadImage d file s = s := by
  cases file with
  | none => rfl
  | some bytes => exact if_neg (mt loadSucceeds_some.mpr (by rw [h]; decide))

theorem loadSucceeds_of_length_ne (h : bytes.length ≠ 232960) : loadSucceeds (some bytes) = false :=
  Bool.eq_false_iff.mpr (mt loadSucceeds_some.mp h)

end

theorem Memory.length_toBytes (m : Memory) (n : Nat) : (m.toBytes n).length = n := by
  rw [Memory.toBytes, List.length_map, List.length_range]

theorem Memory.getD_toBytes (m : Memory) {n j : Nat} (h : j < n) : (m.toBytes n).getD j 0 = m.byteAt j := by
  simp [Memory.toBytes, List.getD, h]

theorem saveImage_of_readonly {d : DriveId} {s : State} (h : (s.disk.drive d).readonly = true) : saveImage d s = none := if_pos h

theorem saveImage_of_writable {d : DriveId} {s : State} (h : (s.disk.drive d).readonly = false) :
    saveImage d s = some ((s.disk.drive d).data.toBytes 232960) := if_neg (by rw [h]; decide)

/-- Settles O57, call by call. -/
theorem hostWrites : Obligations.HostWrites := by
  refine ⟨?key, ?readonly, ?load, ?noFile, ?wrongLength, ?fails, fun _ _ => rfl, fun _ _ _ => rfl, fun _ _ _ _ => ⟨rfl, rfl⟩, ?save,
    ?mode, fun _ _ => ⟨rfl, rfl⟩, fun _ => ⟨rfl, rfl⟩, fun _ _ => rfl, fun _ => rfl⟩
  case key => exact fun key s => ⟨_, rfl, keystroke_bits key⟩
  case readonly => exact fun d on s => ⟨Disk.drive_setDrive_same _ d _, rfl⟩
  case load =>
    intro d bytes s hlength
    have hload := loadSucceeds_some.mpr hlength
    exact ⟨hload, _, loadImage_of_succeeds hload, fun j _ => Memory.byteAt_ofBytes bytes j⟩
  case noFile => exact fun d s => ⟨rfl, rfl⟩
  case wrongLength =>
    intro d bytes s hlength
    have hload := loadSucceeds_of_length_ne hlength
    exact ⟨hload, loadImage_of_fails hload⟩
  case fails => exact fun d file s => loadImage_of_fails
  case save =>
    refine fun d s => ⟨saveImage_of_readonly, fun h => ⟨_, saveImage_of_writable h, Memory.length_toBytes _ _, fun j hj => ?_⟩⟩
    exact Memory.getD_toBytes _ hj
  case mode =>
    exact fun on s => ⟨fun h => congrArg Host.Outcome.next (setSingleStep_runs on h),
      fun h => congrArg Host.Outcome.next (setSingleStep_idle on h)⟩

end Sys2Proof.Machine
end

section
/-! Reset and the state after it: 70 R500, R501, R503, R504 (O55, O58). -/

namespace Sys2Proof.Machine

open Sys2Proof.Claims

/-- Settles O55: the vector is read without side effects, and `RESET_CYCLES` is 7. -/
theorem reset : Obligations.Reset := resetCall_eq

/-! Power-on: no array lists a byte (logs 2 to 4), and both drives are empty (R503). -/

theorem Memory.fits_nil (size : Nat) : Memory.fits [] size = true := rfl

/-- Slot 6 alone is present at power-on (log 4). -/
theorem powerOn_slot {n : Nat} {m : Memory} (h : State.powerOn.slotRom.slot n = some m) : m = [] := by
  unfold SlotRoms.slot at h
  split at h <;> cases h
  rfl

theorem Drive.powerOn_inv : Drive.powerOn.Inv := ⟨Nat.zero_le _, rfl, by decide, Memory.fits_nil _⟩

theorem State.powerOn_inv : State.powerOn.Inv where
  ram_fits b := by cases b <;> exact Memory.fits_nil _
  rom_fits := Memory.fits_nil _
  slot_fits n m h := by
    cases powerOn_slot h
    exact Memory.fits_nil _
  exp_fits m h := by cases h
  drv0 := Drive.powerOn_inv
  drv1 := Drive.powerOn_inv

/-- With LCREAD = 0 an address of the language card reads from ROM, the reset vector's two among them (R504). -/
theorem powerOn_peek_high {a : Word} (h : 0xD000 ≤ a.toNat) : peek a State.powerOn = 0 := peek_rom (source_high h)

theorem resetCall_powerOn : resetCall State.powerOn = .next State.reset := by
  rw [resetCall_eq, powerOn_peek_high (by decide), powerOn_peek_high (by decide)]
  rfl

/-- Settles O58: reset keeps the invariant, which power-on meets. -/
theorem resetState : Obligations.ResetState :=
  ⟨resetCall_powerOn, resetCall_inv State.powerOn_inv resetCall_powerOn, rfl, rfl, rfl, rfl, rfl, rfl, rfl⟩

end Sys2Proof.Machine
end
